-- ==== Sys2Proof/Word.lean ====
section
/-!
DEFINITION. The word and index types of the DN2416 (00_scope.md 4.2, 4.3, 4.6). Octets and wider
fields are bit vectors, because the spec numbers their bits. Addresses, indices and sequence values
are bounded numbers, because the spec only counts with them, sequence values modulo 16 and station
addresses modulo 32.
-/

namespace Sys2Proof

/-- One octet of the trunk, of the host port or of packet memory. -/
abbrev Octet := BitVec 8

/-- Ten samples of the line, one for each bit time of an octet: bit 0 the start bit, bits 1 to 8 the data
bits, bit 9 the stop bit; a sample is 1 at MARK and 0 at SPACE (R1). -/
abbrev Character := BitVec 10

/-- A two-octet field of the host port, low octet first (R169). -/
abbrev Half := BitVec 16

/-- A notice value (R8, R136). -/
abbrev Value := BitVec 32

/-- A 32 yes-or-no choice, one per station address: source sets and waiter sets (R103, R104). -/
abbrev StationSet := BitVec 32

/-- The epoch, a 4-bit value carried in every frame (R5). -/
abbrev Epoch := BitVec 4

/-- A station address 0..31. Slot numbers are counted in the same modulo-32 arithmetic (R22). -/
abbrev Station := Fin 32

/-- A sequence value 0..15; all arithmetic is modulo 16 (00_scope.md 4.3). -/
abbrev Seq := Fin 16

/-- An inbox number 0..7. -/
abbrev InboxIx := Fin 8

/-- A send queue number 0..3. -/
abbrev QueueIx := Fin 4

/-- A descriptor index 0..127. -/
abbrev DescIx := Fin 128

/-- A fan-out list number 0..15. -/
abbrev ListIx := Fin 16

/-- A notice word number 0..3. -/
abbrev WordIx := Fin 4

/-- An OFFER field or a known credit hint, 0..63 (Table 1-3, R53). -/
abbrev Offer := Fin 64

/-- A packet memory address 0..32767 (R56). -/
abbrev MemAddr := Fin 32768

end Sys2Proof
end

