-- ==== Sys2Proof/Syntax.lean ====
section
/-!
DEFINITION. The commands of the block: one constructor of `Instr` for each row of
spec/opcode_table.json, with what the event or the host command carries. Events of the trunk and of
the part's clock come first, then the two edges of SEL, then the host commands with their parameter
fields as raw as the port carries them (Table 11-3).
-/

namespace Sys2Proof

/-- The two levels of the trunk line (01 section 1.1). -/
inductive LineLevel where
  | mark
  | space
deriving DecidableEq, Repr

/-- The level of a digital pin. -/
inductive PinLevel where
  | low
  | high
deriving DecidableEq, Repr

/-- The commands of the DN2416: one constructor for each row of spec/opcode_table.json. -/
inductive Instr where
  /-- HARD_RESET (R19): power-on, or RST held low and released. The operands are the pins as they
  stand: SA0..SA4, RATE1..RATE0, the level of the trunk line, the level of SEL, and the level at which
  RST is left. With `rst` high the reset ends here; with `rst` low it has begun and RST is held low,
  until a HARD_RESET with `rst` high, the operand where none is given, ends it (log entry 21). -/
  | hardReset (address : Station) (rate : Fin 4) (line : LineLevel) (sel : PinLevel)
      (rst : PinLevel := .high)
  /-- RESTART (R178): the host command with no parameters; the operands are what the soft reset
  samples, the straps and the level of the trunk line. -/
  | restart (address : Station) (rate : Fin 4) (line : LineLevel)
  /-- ACTIVITY_START (R2): a start bit that this station is not sending is confirmed. -/
  | activityStart
  /-- TRANSMIT_MISMATCH (R16): the transmit monitor finds the line differing from the own drive. -/
  | transmitMismatch
  /-- TRANSMISSION_COMPLETE (R15): the stop bit of the last CRC octet is complete. -/
  | transmissionComplete
  /-- VALID_FRAME_END (R14): an activity ends after 3 bit times of MARK; the operand is what the line
  carried in it, ten samples for each falling edge the assembler timed (R1). -/
  | validFrameEnd (characters : List Character)
  /-- INVALID_ACTIVITY_END (R13): an activity ends as invalid activity; nothing of it is handed on. The
  operand is what the line carried in it, as in VALID_FRAME_END: its octets stay in the receive store
  until the next activity begins (R2). -/
  | invalidActivityEnd (characters : List Character := [])
  /-- LINE_FOUND_STUCK (R163): the line has been at SPACE for 64 bit times; the operand is what the
  assembler framed before it stopped assembling. -/
  | lineFoundStuck (characters : List Character := [])
  /-- RETURN_TO_IDLE (R166): a stuck line has rested at MARK for 3 bit times. -/
  | returnToIdle
  /-- SLOT_BEGIN (R23): the station's own slot begins. With `overtaken` another station's activity begins
  at the same instant, after the grant and before the transmission, so that the line is no longer IDLE when
  the transmission is to begin (R15, R27; log entry 19). -/
  | slotBegin (overtaken : Bool := false)
  /-- REPLY_START (R28): idle time reaches 6 bit times after an addressed frame that was decided. -/
  | replyStart
  /-- REPLY_WATCH_TIMEOUT (R17): no activity began within 12 bit times. -/
  | replyWatchTimeout
  /-- JOIN_QUIET (R32): the join count reaches 288 bit times. -/
  | joinQuiet
  /-- QUIET_TIMER_EXPIRY (R35). -/
  | quietTimerExpiry
  /-- SILENCE_TIMER_EXPIRY (R40) of the entry of one peer. -/
  | silenceTimerExpiry (peer : Station)
  /-- PRESENCE_TIMER_EXPIRY (R43). -/
  | presenceTimerExpiry
  /-- HOLD_TIMER_EXPIRY (R125) of one queue. -/
  | holdTimerExpiry (queue : QueueIx)
  /-- SEL_FALL (R170). -/
  | selFall
  /-- SEL_RISE (R170, R172). -/
  | selRise
  /-- IDENT (R177), code 0x01. -/
  | ident
  /-- CONFIGURE (R175, R176), code 0x02, with its 50 parameter octets. -/
  | configure (params : List Octet)
  /-- LEAVE (R33), code 0x04. -/
  | leave
  /-- JOIN (R34), code 0x05. -/
  | join
  /-- MEM_WRITE (R179), code 0x10: address, count, and count data octets. -/
  | memWrite (address count : Half) (data : List Octet)
  /-- MEM_READ (R179), code 0x11. -/
  | memRead (address count : Half)
  /-- DESC_WRITE (R59), code 0x20: its 13 parameter octets field by field; `kindByte`, `destByte`
  and `channelByte` are octets 2, 3 and 4. -/
  | descWrite (index kindByte destByte channelByte : Octet) (address length : Half) (value : Value)
      (link : Octet)
  /-- DESC_READ (R60), code 0x21. -/
  | descRead (index : Octet)
  /-- DESC_DISARM (R60), code 0x22. -/
  | descDisarm (index : Octet)
  /-- LIST_WRITE (R61), code 0x23: list number, count, and count station octets. -/
  | listWrite (list count : Octet) (stations : List Octet)
  /-- QUEUE_START (R65), code 0x30. -/
  | queueStart (queue index : Octet)
  /-- QUEUE_RESUME (R66), code 0x31. -/
  | queueResume (queue : Octet)
  /-- QUEUE_STOP (R73), code 0x32. -/
  | queueStop (queue : Octet)
  /-- QUEUE_READ (R76), code 0x33. -/
  | queueRead (queue : Octet)
  /-- INBOX_POST (R105), code 0x40. -/
  | inboxPost (inbox : Octet) (address capacity : Half)
  /-- INBOX_TAKE (R107), code 0x41. -/
  | inboxTake (inbox : Octet)
  /-- INBOX_READ (R119), code 0x42. -/
  | inboxRead (inbox : Octet)
  /-- NOTICE_TAKE (R141), code 0x48. -/
  | noticeTake (word : Octet)
  /-- LOG_TAKE (R148), code 0x50. -/
  | logTake
  /-- PEER_READ (R54), code 0x58. -/
  | peerRead (station : Octet)
  /-- EVENTS_READ (R153), code 0x60. -/
  | eventsRead
  /-- EVENTS_CLEAR (R153), code 0x61: its three parameter octets as one field, bit n for flag n. -/
  | eventsClear (selection : BitVec 24)
  /-- MASK_WRITE (R154), code 0x62: its three parameter octets as one field, bit n for flag n. -/
  | maskWrite (enables : BitVec 24)
  /-- COUNTERS_TAKE (R168), code 0x68. -/
  | countersTake
  /-- UNKNOWN_COMMAND (R171, R174): a command code that Table 11-2 does not define. -/
  | unknownCommand (code : Octet)
deriving DecidableEq, Repr

end Sys2Proof
end

