-- ==== Sys2Proof/Decode.lean ====
section
/-!
DEFINITION. spec/opcode_table.json gives bits to none of its rows, so a word spells no command (log
entry 24).
-/

namespace Sys2Proof

/-- The command a word spells by the table's bits: none, the table giving no row any. -/
def decodeTableWord (_nbits _w : Nat) : Option Instr := none

end Sys2Proof
end

