-- ==== Sys2Proof/Config.lean ====
section
/-!
DEFINITION. What one implementation or board fixes and the spec does not: the strap pins as they
stand at the model's power-on, and the free values of the points on which the spec is silent.
-/

namespace Sys2Proof.Config

/-- DESIGN CHOICE (log entry 2): the address on SA0..SA4 at the power-on that `State.reset` stands
for. The board gives it; HARD_RESET and RESTART carry any other. -/
def powerOnAddress : Station := 0

/-- DESIGN CHOICE (log entry 2): the code on RATE1, RATE0 at that power-on. -/
def powerOnRate : Fin 4 := 0

/-- DESIGN CHOICE (log entry 15), a free value: the number of destinations QUEUE_READ reports in
its octet 11 for a head whose copied fan-out list is empty. Table 11-4 allows only 1..8 with a
head, and no rule gives the value for that head. Nothing is known of it. -/
opaque emptyCopyDestinations : Octet

end Sys2Proof.Config
end

