-- ==== Sys2Proof/Machine/State.lean ====
section
/-!
DEFINITION. The state of one DN2416, block by block as 00_scope.md section 2 draws it, as plain data;
its value after a power-on reset; and the reasons a step can stop. INVENTORY.md lists every field
with the rule that names it and its reset value.
-/

namespace Sys2Proof.Machine

/-! ### Packet memory (R56) -/

/-- Packet memory: the octets that are not 0, by address, addresses strictly rising. -/
structure Memory where
  cells : List Host.Cell
deriving DecidableEq, Repr

/-! ### Frames (chapter 1) -/

/-- What a frame carries after its header, by kind (Tables 1-2 and 1-3). -/
inductive FrameBody where
  | data (seq : Seq) (payload : List Octet)
  | bcast (payload : List Octet)
  | notice (word : WordIx) (value : Value)
  | step
  | credit (offer : Offer)
  | presence (freshStart : Bool)
  | reply (code : Octet) (last : Seq) (fresh : Bool) (offer : Offer)
deriving DecidableEq, Repr

/-- The frame record of R14, less its end instant and own flag. `dst` is `none` for ALL (63). -/
structure Frame where
  epoch : Epoch
  src   : Station
  ch    : InboxIx
  dst   : Option Station
  body  : FrameBody
deriving DecidableEq, Repr

/-- The reply codes (Table 1-4). -/
inductive ReplyCode where
  | accepted | duplicate | full | tooLong | closed | outOfStep
  | stepState
  | noticeTaken | noticeOverwrote | noticeClosed
deriving DecidableEq, Repr

/-! ### The trunk interface (R2, R4, R15 to R17) -/

/-- The line state (R4). -/
inductive LineState where
  | idle | activeRx | activeTx | stuck
deriving DecidableEq, Repr

/-- The frame a send queue sends at a grant (R83). -/
inductive QueueFrame where
  | data | step | bcast | notice
deriving DecidableEq, Repr

/-- An item handed to the trunk interface (R24, R28). -/
inductive Item where
  | freshStart
  | credit (inbox : InboxIx)
  | queue (queue : QueueIx) (frame : QueueFrame)
  | presence
  | reply
deriving DecidableEq, Repr

/-- How far a transmission has come (R15, R16). -/
inductive TxPhase where
  | driving      -- the station drives the line
  | complete     -- the last stop bit is complete, the line is released
  | mismatched   -- the transmit monitor found a mismatch, the station stopped driving
deriving DecidableEq, Repr

/-- The transmission in progress, from its beginning to the finding on it. `lead` is the octets fixed
at the grant (SYNC, header, control octets); the payload, `length` octets from `address`, is read
from packet memory as it goes out (R15). -/
structure Transmission where
  item    : Item
  lead    : List Octet
  address : Nat
  length  : Nat
  sent    : List Octet
  /-- Bit times of the last octet of `sent` already on the line. -/
  bit     : Nat
  phase   : TxPhase
deriving DecidableEq, Repr

/-- An open reply watch (R17): the queue whose attempt it is, the frame sent, the station addressed. -/
structure Watch where
  queue   : QueueIx
  frame   : QueueFrame
  station : Station
deriving DecidableEq, Repr

/-- The trunk interface. -/
structure TrunkInterface where
  line          : LineState
  /-- The activity under way was found in progress when a reset ended (R4). -/
  unseenStart   : Bool
  /-- The receive store: the octets kept of the last activity, valid or not, at most 521 (R2, R7). -/
  received      : List Octet
  /-- The octets counted in that activity (R2). -/
  receivedCount : Nat
  transmission  : Option Transmission
  /-- A REPLY composed and not yet begun (R10, R28). -/
  reply         : Option Frame
  watch         : Option Watch
deriving DecidableEq, Repr

/-! ### The claim unit (R18 to R36, R159) -/

/-- The station trunk state (R18). -/
inductive TrunkState where
  | unconfigured | listening | active | quiet | offline
deriving DecidableEq, Repr

/-- The claim unit. -/
structure ClaimUnit where
  state             : TrunkState
  /-- L, the last-winner reference (R20). -/
  lastWinner        : Station
  /-- Idle time in bit times; it grows while the line is IDLE (R21). -/
  idleTime          : Nat
  /-- The join count in bit times, `none` while it does not run (R30). -/
  joinCount         : Option Nat
  /-- What is left of the quiet timer in bit times, `none` while it does not run (R35). -/
  quietTimer        : Option Nat
  /-- The consecutive collision count, 0..8 (R159). -/
  collisionCount    : Nat
  lastUrgent        : QueueIx
  lastRoutine       : QueueIx
  freshStartOwed    : Bool
  freshStartPending : Bool
  leaveDeferred     : Bool
deriving DecidableEq, Repr

/-! ### The peer table (R37 to R55) -/

/-- The state of a peer entry (R37). -/
inductive PeerState where
  | unknown | present | silent | self
deriving DecidableEq, Repr

/-- A send pair record (R51). -/
structure SendPair where
  anchor : Seq
  /-- The blind count, 0..3. -/
  blind  : Nat
  lock   : Option QueueIx
deriving DecidableEq, Repr

/-- One peer entry (R37). A hint `none` is UNKNOWN (R53); a receive record `none` is FRESH (R52). -/
structure PeerEntry where
  state   : PeerState
  epoch   : Option Epoch
  /-- The silence timer: bit times since its last start, `none` when stopped. -/
  silence : Option Nat
  send    : Vector SendPair 8
  hints   : Vector (Option Offer) 8
  receive : Vector (Option Seq) 8
deriving DecidableEq, Repr

/-- The peer table with the own presence timer (R43). -/
structure PeerTable where
  entries       : Vector PeerEntry 32
  /-- Bit times since the own presence timer's last start, `none` when stopped. -/
  presenceTimer : Option Nat
  presenceDue   : Bool
deriving DecidableEq, Repr

/-! ### Descriptors and fan-out lists (R57 to R61) -/

/-- The kind of a descriptor (R57). -/
inductive DescKind where
  | message | broadcast | notice
deriving DecidableEq, Repr

/-- The destination of a descriptor (R57). -/
inductive Destination where
  | station (s : Station)
  | list (n : ListIx)
  | all
deriving DecidableEq, Repr

/-- Outcomes, of messages and of destinations (R70, section 11.7). -/
inductive Outcome where
  | delivered | noReply | refusedFull | tooLong | closed | peerSilent | stopped | notTried
  | partDelivered | undelivered | sent | taken | overwrote | malformed
deriving DecidableEq, Repr

/-- The host fields of a descriptor (R57). A link `none` is END. -/
structure HostFields where
  kind        : DescKind
  destination : Destination
  inbox       : InboxIx
  word        : WordIx
  address     : MemAddr
  length      : Fin 1024
  value       : Value
  link        : Option DescIx
  notify      : Bool
deriving DecidableEq, Repr

/-- A descriptor: host fields and part fields (R57). -/
structure Descriptor where
  host    : HostFields
  armed   : Bool
  holder  : Option QueueIx
  outcome : Option Outcome
  /-- Attempts, 0..255. -/
  attempts : Nat
  /-- Late count, 0..3. -/
  late     : Nat
  perDest  : Option (List (Station × Outcome))
deriving DecidableEq, Repr

/-- The descriptor store. -/
structure DescriptorStore where
  descriptors : Vector Descriptor 128
  lists       : Vector (List Station) 16
deriving DecidableEq, Repr

/-! ### The send engine (R62, R78) -/

/-- The destinations of an in-flight message (R62). -/
inductive Destinations where
  | one (s : Station)
  | list (l : List Station)
  | all
deriving DecidableEq, Repr

/-- The step lock (R78). -/
inductive StepLock where
  | none | awaited | taken
deriving DecidableEq, Repr

/-- The in-flight context of a queue (R62, R78). -/
structure Context where
  head         : DescIx
  copy         : HostFields
  destinations : Destinations
  /-- The position of the step under way, from 1. -/
  current      : Nat
  /-- Per-destination outcomes, NOT_TRIED until decided. -/
  outcomes     : List Outcome
  stepAttempts : Nat
  fullCount    : Nat
  /-- What is left of the hold timer in bit times, `none` when stopped. -/
  hold         : Option Nat
  attempts     : Nat
  late         : Nat
  /-- Absent until the message settles. -/
  outcome      : Option Outcome
  lock         : StepLock
  unconfirmed  : Bool
  seqSent      : Option Seq
deriving DecidableEq, Repr

/-- The state of a send queue with its position and in-flight context (R62). -/
inductive QueueState where
  | stopped
  | waitingAt (d : DescIx)
  | waitingAfter (d : DescIx)
  | running (c : Context)
  | held (c : Context)
  | blockedLog (c : Context)
  | stopping (c : Context)
deriving DecidableEq, Repr

/-! ### Inboxes (R103, R107) -/

/-- A buffer record (R105). -/
structure Buffer where
  address  : MemAddr
  capacity : Nat
deriving DecidableEq, Repr

/-- The kind of an arrival (R107). -/
inductive ArrivalKind where
  | data | bcast
deriving DecidableEq, Repr

/-- An arrival record (R107). -/
structure Arrival where
  source : Station
  kind   : ArrivalKind
  length : Nat
  buffer : Buffer
  seq    : Option Seq
deriving DecidableEq, Repr

/-- The lists and flags of an inbox (R103); its configuration is in `Settings`. -/
structure Inbox where
  free     : List Buffer
  arrivals : List Arrival
  waiters  : StationSet
  announce : Bool
  /-- The broadcast drop count, 0..65535. -/
  drops    : Nat
deriving DecidableEq, Repr

/-! ### Notice words, completion log, attention, counters -/

/-- The content of a notice word (R136). -/
structure NoticeWord where
  value  : Value
  writer : Option Station
  unread : Bool
deriving DecidableEq, Repr

/-- A completion record (R145). -/
structure CompletionRecord where
  queue      : QueueIx
  descriptor : DescIx
  outcome    : Outcome
  attempts   : Nat
  late       : Nat
  perDest    : Option (List (Station × Outcome))
deriving DecidableEq, Repr

/-- The latched events and the mask (R151, R154). The conditions and ATTN are functions of the state. -/
structure Attention where
  peerChange   : Bool
  peerRestart  : Bool
  queueIdle    : Vector Bool 4
  quietEntered : Bool
  lineStuck    : Bool
  mask         : BitVec 21
deriving DecidableEq, Repr

/-- The four diagnostic counters, 0..65535 each (R167). -/
structure Counters where
  invalid    : Nat
  collisions : Nat
  noReply    : Nat
  drops      : Nat
deriving DecidableEq, Repr

/-! ### The host port and what CONFIGURE fixes -/

/-- The transaction state of the host port (R170). -/
inductive PortState where
  | idle | command | response
deriving DecidableEq, Repr

/-- The host port: the transaction state, the octets held of a command not yet taken, the octets of the
response not yet shifted out (the status octet, then the response data; the first is the one on SDO), and
the level of SEL. -/
structure HostPort where
  state    : PortState
  held     : List Octet
  response : List Octet
  sel      : PinLevel
deriving DecidableEq, Repr

/-- Class and log-all of a queue (R62). -/
structure QueueSetting where
  urgent : Bool
  logAll : Bool
deriving DecidableEq, Repr

/-- The configuration of an inbox (R104). -/
structure InboxSetting where
  enabled   : Bool
  broadcast : Bool
  sources   : StationSet
deriving DecidableEq, Repr

/-- The access of a notice word (R136). -/
inductive Access where
  | closed
  | opened
  | restricted (s : Station)
deriving DecidableEq, Repr

/-- Everything CONFIGURE supplies (R175, R176). -/
structure Settings where
  epoch      : Epoch
  presence   : Fin 6
  retryLimit : Nat
  holdLimit  : Nat
  patience   : Nat
  queues     : Vector QueueSetting 4
  inboxes    : Vector InboxSetting 8
  access     : Vector Access 4
deriving DecidableEq, Repr

/-- What the strap pins gave at the most recent reset (00_scope.md section 3). -/
structure Straps where
  address : Station
  rate    : Fin 4
deriving DecidableEq, Repr

/-- The state of the part, and the queue of commands waiting to be taken, first in, first out. -/
structure State where
  straps    : Straps
  /-- The level of RST; low while a hard reset is held (R155, R170). -/
  rst       : PinLevel
  trunk     : TrunkInterface
  claim     : ClaimUnit
  peers     : PeerTable
  store     : DescriptorStore
  queues    : Vector QueueState 4
  inboxes   : Vector Inbox 8
  words     : Vector NoticeWord 4
  log       : List CompletionRecord
  attention : Attention
  counters  : Counters
  memory    : Memory
  port      : HostPort
  /-- `none` until CONFIGURE has been taken (R176). -/
  settings  : Option Settings
  pending   : List Instr
deriving DecidableEq, Repr

/-! ### Reasons to stop -/

/-- No command of this part stops it with a fault: every event and every host command has an effect
or leaves the part as it is. The type has no constructor. -/
inductive Fault where
deriving DecidableEq, Repr

/-- Refusals. -/
inductive Refusal where
  /-- Raised only by an arm of `exec` whose command has no meaning yet. Safe: nothing is claimed of
  the command. No arm raises it now. -/
  | notModelled (mnemonic : String)
deriving DecidableEq, Repr

/-! ### The values after a reset -/

/-- R4, R15, R17: nothing received, sent, composed or watched; the line IDLE. -/
def TrunkInterface.initial : TrunkInterface :=
  { line := .idle, unseenStart := false, received := [], receivedCount := 0, transmission := none,
    reply := none, watch := none }

/-- R19. -/
def ClaimUnit.initial : ClaimUnit :=
  { state := .unconfigured, lastWinner := 31, idleTime := 0, joinCount := none, quietTimer := none,
    collisionCount := 0, lastUrgent := 3, lastRoutine := 3, freshStartOwed := false,
    freshStartPending := false, leaveDeferred := false }

/-- R55: anchor 15, blind count 0, lock none. -/
def SendPair.initial : SendPair := { anchor := 15, blind := 0, lock := none }

/-- R55, for a peer entry in the state given. -/
def PeerEntry.initial (st : PeerState) : PeerEntry :=
  { state := st, epoch := none, silence := none, send := Vector.replicate 8 SendPair.initial,
    hints := Vector.replicate 8 none, receive := Vector.replicate 8 none }

/-- R38, R55: the entry at the own address is SELF, every other UNKNOWN. -/
def PeerTable.initial (own : Station) : PeerTable :=
  { entries := (Vector.replicate 32 (PeerEntry.initial .unknown)).set own.val
      (PeerEntry.initial .self) own.isLt,
    presenceTimer := none, presenceDue := false }

/-- R77, the host fields after a hard reset. -/
def HostFields.initial : HostFields :=
  { kind := .message, destination := .station 0, inbox := 0, word := 0, address := 0, length := 0,
    value := 0, link := some 0, notify := false }

/-- R77, a descriptor after a hard reset. -/
def Descriptor.initial : Descriptor :=
  { host := HostFields.initial, armed := false, holder := none, outcome := none, attempts := 0,
    late := 0, perDest := none }

/-- R77, descriptors and fan-out lists after a hard reset. -/
def DescriptorStore.initial : DescriptorStore :=
  { descriptors := Vector.replicate 128 Descriptor.initial, lists := Vector.replicate 16 [] }

/-- R120. -/
def Inbox.initial : Inbox :=
  { free := [], arrivals := [], waiters := 0, announce := false, drops := 0 }

/-- R144. -/
def NoticeWord.initial : NoticeWord := { value := 0, writer := none, unread := false }

/-- R156. -/
def Attention.initial : Attention :=
  { peerChange := false, peerRestart := false, queueIdle := Vector.replicate 4 false,
    quietEntered := false, lineStuck := false, mask := 0 }

/-- R168. -/
def Counters.initial : Counters := { invalid := 0, collisions := 0, noReply := 0, drops := 0 }

/-- R170: the port is IDLE after a hard reset. -/
def HostPort.initial (sel : PinLevel) : HostPort :=
  { state := .idle, held := [], response := [], sel := sel }

/-- The part right after a power-on reset, RST released, on a line at MARK with SEL high; the straps are the
board's (log entry 2). -/
def State.reset : State :=
  { straps := { address := Config.powerOnAddress, rate := Config.powerOnRate },
    rst := .high,
    trunk := TrunkInterface.initial,
    claim := ClaimUnit.initial,
    peers := PeerTable.initial Config.powerOnAddress,
    store := DescriptorStore.initial,
    queues := Vector.replicate 4 .stopped,
    inboxes := Vector.replicate 8 Inbox.initial,
    words := Vector.replicate 4 NoticeWord.initial,
    log := [],
    attention := Attention.initial,
    counters := Counters.initial,
    memory := { cells := [] },
    port := HostPort.initial .high,
    settings := none,
    pending := [] }

end Sys2Proof.Machine
end

