-- ==== Sys2Proof/Machine/Figures.lean ====
section
/-!
DEFINITION. The figures of the part that rules state: times in bit times (chapter 2), the host-scale
intervals (chapter 3), the sizes of its lists, and the count that stops at a limit.
-/

namespace Sys2Proof.Machine

/-- Counting that stops at a limit (00_scope.md 4.7, R57, R94, R123, R159). -/
def satAdd (limit n k : Nat) : Nat := min limit (n + k)

/-- R21: the gap, in bit times of idle time. -/
def gapTime : Nat := 16

/-- R21: a slot, in bit times. -/
def slotTime : Nat := 4

/-- R21: a round of 32 slots, in bit times. -/
def roundTime : Nat := 128

/-- R28: the DN2416 begins its REPLY at this idle time. -/
def replyTime : Nat := 6

/-- R17: the reply watch waits this long for an activity to begin. -/
def watchTime : Nat := 12

/-- R32: the join quiet. -/
def joinQuietTime : Nat := 288

/-- R35: the quiet timer's start value. -/
def quietTime : Nat := 4096

/-- R159, R160: the consecutive collision count that sends a station QUIET. -/
def collisionLimit : Nat := 8

/-- R2: the longest activity whose octets are all kept. -/
def keptOctets : Nat := 521

/-- R56: the size of packet memory in octets. -/
def memorySize : Nat := 32768

/-- Table 1-3, R175, R179: the longest payload, buffer and port transfer. -/
def maxPayload : Nat := 512

/-- R105: the free-buffer list's limit. -/
def freeLimit : Nat := 32

/-- R103: the arrival list's limit. -/
def arrivalLimit : Nat := 64

/-- R147: the completion log's limit. -/
def logLimit : Nat := 64

/-- R51: the blind count's limit. -/
def blindLimit : Nat := 3

/-- R94: the late count stops here. -/
def lateLimit : Nat := 3

/-- R57, R123: the attempts and FULL counts stop here. -/
def attemptLimit : Nat := 255

/-- 00_scope.md 4.7: a diagnostic counter stops here. -/
def counterLimit : Nat := 65535

/-- R177: the part code IDENT reports. -/
def partCode : Half := 0x2416

/-- R177: the revision code of the part the manual describes. -/
def revisionCode : Octet := 0x01

/-- 00_scope.md section 3, Table of rate codes: bit times in one millisecond. That the part's
millisecond timebase passes in step with its bit times is the model's (log entry 4). -/
def bitTimesPerMs (rate : Fin 4) : Nat :=
  match rate with
  | 0 => 250
  | 1 => 1000
  | 2 => 2500
  | 3 => 5000

/-- R175: the presence interval a presence code selects, in milliseconds. -/
def presenceMs (code : Fin 6) : Nat := 8 * 2 ^ code.val

/-- R40: the silence limit is three times the presence interval. -/
def silenceMs (code : Fin 6) : Nat := 3 * presenceMs code

/-- R21: whether slot `k` begins at this idle time. -/
def slotBeginsAt (k : Station) (idle : Nat) : Bool :=
  decide (gapTime ≤ idle) && (idle - gapTime) % roundTime == slotTime * k.val

/-- R22: the own slot is (own address − L − 1) mod 32. -/
def ownSlot (own lastWinner : Station) : Station := own - lastWinner - 1

end Sys2Proof.Machine
end

