-- ==== Sys2Proof/Machine/Octets.lean ====
section
/-!
DEFINITION. Octets: packing and unpacking of multi-octet fields, low octet first (00_scope.md 4.6,
R169), the fields inside an octet, and the CRC of R6.
-/

namespace Sys2Proof.Machine

/-- A number as one octet. -/
def octet (n : Nat) : Octet := BitVec.ofNat 8 n

/-- The `n` octets of a number, low octet first. -/
def octetsOf : Nat → Nat → List Octet
  | 0, _ => []
  | n + 1, v => octet v :: octetsOf n (v / 256)

/-- The number that octets give, low octet first. -/
def octetsValue : List Octet → Nat
  | [] => 0
  | o :: rest => o.toNat + 256 * octetsValue rest

/-- `width` bits of an octet from bit `low` up, as a number. -/
def bitsOf (o : Octet) (low width : Nat) : Nat := o.toNat / 2 ^ low % 2 ^ width

/-- Bit `n` of an octet. -/
def bitOf (o : Octet) (n : Nat) : Bool := o.getLsbD n

/-- The octet at 1-based position `n` of a parameter run, 0 beyond its end. -/
def octetAt (l : List Octet) (n : Nat) : Octet := l.getD (n - 1) 0

/-- A yes-or-no as a number. -/
def bit (b : Bool) : Nat := if b then 1 else 0

/-- An octet holding 0xFF for none, absent, FRESH or UNKNOWN (section 11.7). -/
def octetOr (v : Option Nat) : Octet :=
  match v with
  | some n => octet n
  | none => 0xFF

/-- The number whose bit n is element n of the list. -/
def bitsToNat : List Bool → Nat
  | [] => 0
  | b :: rest => bit b + 2 * bitsToNat rest

/-- R6: one data bit into the CRC register. -/
def crcBit (register : Half) (dataBit : Bool) : Half :=
  let shifted := register <<< 1
  if register.getLsbD 15 != dataBit then shifted ^^^ 0x1021 else shifted

/-- R6: one octet into the register, most significant bit first. -/
def crcOctet (register : Half) (o : Octet) : Half :=
  [7, 6, 5, 4, 3, 2, 1, 0].foldl (fun r n => crcBit r (o.getLsbD n)) register

/-- R6: the CRC of the covered octets, from a register of all ones. -/
def crc (covered : List Octet) : Half := covered.foldl crcOctet 0xFFFF

/-- R6: the CRC as it is sent, low octet first. -/
def crcOctets (covered : List Octet) : List Octet := octetsOf 2 (crc covered).toNat

end Sys2Proof.Machine
end

