-- ==== Sys2Proof/Machine/Frames.lean ====
section
/-!
DEFINITION. Frames (chapter 1): their layouts (Tables 1-1 to 1-4) as an encoder, the judgement of R12
with the reading of a valid frame's fields as a parser, and the kinds and codes.
-/

namespace Sys2Proof.Machine

/-! ### Octets on the line (R1, R2) -/

/-- R1: the ten bits in which an octet is sent: a start bit at SPACE, the data bits least significant
first, a stop bit at MARK. -/
def lineCharacter (o : Octet) : Character := BitVec.ofNat 10 (2 * o.toNat + 512)

/-- What the assembler gathers of an activity: its octets in order of arrival, and whether a framing fault
was recorded. -/
structure Gathered where
  octets : List Octet
  fault  : Bool
deriving DecidableEq, Repr

/-- R1: a start bit sampled at MARK is a glitch and begins no octet; a stop bit sampled at SPACE is a
framing fault, and the octet is discarded; otherwise the data samples are the octet. -/
def assemble : List Character → Gathered
  | [] => { octets := [], fault := false }
  | c :: rest =>
    let later := assemble rest
    if c.getLsbD 0 then later
    else if c.getLsbD 9 then { later with octets := c.extractLsb' 1 8 :: later.octets }
    else { later with fault := true }

/-! ### Layouts -/

/-- R5: the SYNC octet. -/
def syncOctet : Octet := 0xC3

/-- Table 1-1: the destination code of all stations. -/
def allStations : Nat := 63

/-- Table 1-2: the kind code. -/
def FrameBody.kindCode : FrameBody → Nat
  | .data .. => 1
  | .bcast .. => 2
  | .notice .. => 3
  | .step => 4
  | .credit .. => 5
  | .presence .. => 6
  | .reply .. => 8

/-- Section 1.4: every kind is claimed but REPLY. -/
def FrameBody.claimed : FrameBody → Bool
  | .reply .. => false
  | .data .. | .bcast .. | .notice .. | .step | .credit .. | .presence .. => true

/-- The payload of a frame. -/
def FrameBody.payload : FrameBody → List Octet
  | .data _ p => p
  | .bcast p => p
  | .notice .. | .step | .credit .. | .presence .. | .reply .. => []

/-- R5: FRESH_START, 0 in every kind but PRESENCE. -/
def FrameBody.freshStart : FrameBody → Bool
  | .presence f => f
  | .data .. | .bcast .. | .notice .. | .step | .credit .. | .reply .. => false

/-- Table 1-3: the control octets of a DATA. -/
def dataControls (seq : Seq) (length : Nat) : List Octet := octet seq.val :: octetsOf 2 length

/-- Table 1-3: the control octets of a BCAST. -/
def bcastControls (length : Nat) : List Octet := octetsOf 2 length

/-- Table 1-3: the control octets by kind. -/
def FrameBody.controls : FrameBody → List Octet
  | .data seq p => dataControls seq p.length
  | .bcast p => bcastControls p.length
  | .notice w v => octet w.val :: octetsOf 4 v.toNat
  | .step => []
  | .credit offer => [octet offer.val]
  | .presence _ => []
  | .reply code last fresh offer => [code, octet (last.val + 16 * bit fresh), octet offer.val]

/-- The destination code of a destination (Table 1-1). -/
def destCode : Option Station → Nat
  | some s => s.val
  | none => allStations

/-- Table 1-1: SYNC and the three header octets. -/
def headerOctets (kind : Nat) (epoch : Epoch) (src : Station) (ch : InboxIx) (dst : Option Station)
    (freshStart : Bool) : List Octet :=
  [syncOctet, octet (kind * 16 + epoch.toNat), octet (src.val + 32 * ch.val),
    octet (destCode dst + 128 * bit freshStart)]

/-- Every octet of a frame before its payload. -/
def Frame.lead (f : Frame) : List Octet :=
  headerOctets f.body.kindCode f.epoch f.src f.ch f.dst f.body.freshStart ++ f.body.controls

/-- R5, R6, section 1.2: the octets of a frame. -/
def encodeFrame (f : Frame) : List Octet :=
  let body := f.lead ++ f.body.payload
  body ++ crcOctets (body.drop 1)

/-- R6: the frame's last two octets are the CRC of what stands between SYNC and them. -/
def crcGood (octets : List Octet) : Bool :=
  let body := octets.take (octets.length - 2)
  octets.drop (octets.length - 2) == crcOctets (body.drop 1)

/-- R12, item 3: the station a destination code of 0..31 names. -/
def stationDest (code : Nat) : Option Station := if h : code < 32 then some ⟨code, h⟩ else none

/-- The control fields and payload that follow the header, the CRC octets among `rest`: R12 items 2,
3, 5 and 6 for the kind, with the length Table 1-2 gives. The outer option is the judgement, the
inner one the destination. -/
def parseBody (kind dst : Nat) (freshStart : Bool) (rest : List Octet) :
    Option (Option Station × FrameBody) :=
  match kind, rest with
  | 1, c :: l0 :: l1 :: tail =>
    let len := octetsValue [l0, l1]
    if 1 ≤ len ∧ len ≤ maxPayload ∧ tail.length = len + 2 then
      (stationDest dst).map fun s => (some s, .data (Fin.ofNat 16 (bitsOf c 0 4)) (tail.take len))
    else none
  | 2, l0 :: l1 :: tail =>
    let len := octetsValue [l0, l1]
    if 1 ≤ len ∧ len ≤ maxPayload ∧ tail.length = len + 2 ∧ dst = allStations then
      some (none, .bcast (tail.take len))
    else none
  | 3, [w, v0, v1, v2, v3, _, _] =>
    (stationDest dst).map fun s =>
      (some s, .notice (Fin.ofNat 4 (bitsOf w 0 2)) (BitVec.ofNat 32 (octetsValue [v0, v1, v2, v3])))
  | 4, [_, _] => (stationDest dst).map fun s => (some s, .step)
  | 5, [o, _, _] =>
    if dst = allStations then some (none, .credit (Fin.ofNat 64 (bitsOf o 0 6))) else none
  | 6, [_, _] => if dst = allStations then some (none, .presence freshStart) else none
  | 8, [code, r, o, _, _] =>
    (stationDest dst).map fun s =>
      (some s, .reply code (Fin.ofNat 16 (bitsOf r 0 4)) (bitOf r 4) (Fin.ofNat 64 (bitsOf o 0 6)))
  | _, _ => none

/-- R12: the frame an activity's octets form, or `none` where they are no valid frame. -/
def parseFrame (octets : List Octet) : Option Frame :=
  match octets with
  | sync :: o2 :: o3 :: o4 :: rest =>
    if sync = syncOctet ∧ bitOf o4 6 = false ∧ crcGood octets = true then
      (parseBody (bitsOf o2 4 4) (bitsOf o4 0 6) (bitOf o4 7) rest).map fun (dst, body) =>
        { epoch := BitVec.ofNat 4 (bitsOf o2 0 4), src := Fin.ofNat 32 (bitsOf o3 0 5),
          ch := Fin.ofNat 8 (bitsOf o3 5 3), dst := dst, body := body }
    else none
  | _ => none

/-- R12: the frame an activity forms, its framing faults considered. -/
def judge (characters : List Character) : Option Frame :=
  if (assemble characters).fault then none else parseFrame (assemble characters).octets

/-- Table 1-4: the octet of a reply code. -/
def ReplyCode.toOctet : ReplyCode → Octet
  | .accepted => 1
  | .duplicate => 2
  | .full => 3
  | .tooLong => 4
  | .closed => 5
  | .outOfStep => 6
  | .stepState => 7
  | .noticeTaken => 8
  | .noticeOverwrote => 9
  | .noticeClosed => 10

/-- Table 1-4: the reply code an octet names; 0 and 11..255 name none. -/
def replyCodeOf (o : Octet) : Option ReplyCode :=
  match o.toNat with
  | 1 => some .accepted
  | 2 => some .duplicate
  | 3 => some .full
  | 4 => some .tooLong
  | 5 => some .closed
  | 6 => some .outOfStep
  | 7 => some .stepState
  | 8 => some .noticeTaken
  | 9 => some .noticeOverwrote
  | 10 => some .noticeClosed
  | _ => none

/-- R11, Table 1-4: whether a code fits a reply to the frame. -/
def ReplyCode.fits : ReplyCode → QueueFrame → Bool
  | .accepted, .data | .duplicate, .data | .full, .data | .tooLong, .data | .closed, .data
  | .outOfStep, .data | .stepState, .step | .noticeTaken, .notice | .noticeOverwrote, .notice
  | .noticeClosed, .notice => true
  | _, _ => false

/-- A frame as a station composes it: the payload length is legal and the destination is one its kind
may have (R12 items 3 and 5). -/
def Frame.legal (f : Frame) : Bool :=
  match f.body with
  | .data _ p => decide (1 ≤ p.length ∧ p.length ≤ maxPayload) && f.dst.isSome
  | .bcast p => decide (1 ≤ p.length ∧ p.length ≤ maxPayload) && f.dst.isNone
  | .notice .. | .step | .reply .. => f.dst.isSome
  | .credit .. | .presence .. => f.dst.isNone

end Sys2Proof.Machine
end

