-- ==== Sys2Proof/Machine/Memory.lean ====
section
/-!
DEFINITION. Packet memory (R56): 32 768 octets, every one 0 after a hard reset, held as the octets
that are not 0, by rising address.
-/

namespace Sys2Proof.Machine

/-- R56: what an address that is not listed holds. -/
def unlistedOctet : Octet := 0

/-- The octet listed for an address in a list of cells, or the unlisted one. -/
def readCells : List Host.Cell → Nat → Octet
  | [], _ => unlistedOctet
  | (a, v) :: rest, n => if a = n then v else readCells rest n

/-- A list of cells with one octet written, its form kept. -/
def writeCells : List Host.Cell → Nat → Octet → List Host.Cell
  | [], n, v => if v = unlistedOctet then [] else [(n, v)]
  | (a, w) :: rest, n, v =>
    if n < a then (if v = unlistedOctet then (a, w) :: rest else (n, v) :: (a, w) :: rest)
    else if n = a then (if v = unlistedOctet then rest else (n, v) :: rest)
    else (a, w) :: writeCells rest n v

/-- R56: the octet at an address. -/
def Memory.read (m : Memory) (address : Nat) : Octet := readCells m.cells address

/-- R56: one octet written; addresses 32768 and above do not exist, and no command reaches one. -/
def Memory.write (m : Memory) (address : Nat) (v : Octet) : Memory :=
  if address < memorySize then { cells := writeCells m.cells address v } else m

/-- `count` octets from an address onward. -/
def Memory.readOctets (m : Memory) (address : Nat) : Nat → List Octet
  | 0 => []
  | n + 1 => m.read address :: m.readOctets (address + 1) n

/-- Octets written from an address onward. -/
def Memory.writeOctets (m : Memory) (address : Nat) : List Octet → Memory
  | [] => m
  | v :: rest => (m.write address v).writeOctets (address + 1) rest

/-- The canonical form: every address above the bound before it, inside packet memory, and no octet
equal to what an unlisted address holds. -/
def cellsFrom : Nat → List Host.Cell → Bool
  | _, [] => true
  | lowest, (a, v) :: rest =>
    decide (lowest ≤ a) && decide (a < memorySize) && decide (v ≠ unlistedOctet) && cellsFrom (a + 1) rest

/-- Packet memory is in its canonical form. -/
def Memory.wf (m : Memory) : Bool := cellsFrom 0 m.cells

end Sys2Proof.Machine
end

