-- ==== Sys2Proof/Machine/Ops.lean ====
section
/-!
DEFINITION. The named reads and updates of the state that every block's meaning goes through: one
update per block, one per element of a table, and the small shared changes (latching an event,
advancing a counter). Sys2Proof/Laws/State.lean says of each what it changes and what it leaves.
-/

namespace Sys2Proof.Machine

/-! ### One element of a table -/

/-- A table with one element replaced. -/
def put {α : Type} {n : Nat} (v : Vector α n) (i : Fin n) (x : α) : Vector α n := v.set i.val x i.isLt

/-- A table with every element replaced by a function of it and its index. -/
def mapTable {α β : Type} {n : Nat} (f : Fin n → α → β) (v : Vector α n) : Vector β n :=
  Vector.ofFn fun i => f i v[i]

/-! ### One update per block -/

def State.setStraps (s : State) (x : Straps) : State := { s with straps := x }
def State.setRst (s : State) (x : PinLevel) : State := { s with rst := x }
def State.setTrunk (s : State) (x : TrunkInterface) : State := { s with trunk := x }
def State.setClaim (s : State) (x : ClaimUnit) : State := { s with claim := x }
def State.setPeers (s : State) (x : PeerTable) : State := { s with peers := x }
def State.setStore (s : State) (x : DescriptorStore) : State := { s with store := x }
def State.setQueues (s : State) (x : Vector QueueState 4) : State := { s with queues := x }
def State.setInboxes (s : State) (x : Vector Inbox 8) : State := { s with inboxes := x }
def State.setWords (s : State) (x : Vector NoticeWord 4) : State := { s with words := x }
def State.setLog (s : State) (x : List CompletionRecord) : State := { s with log := x }
def State.setAttention (s : State) (x : Attention) : State := { s with attention := x }
def State.setCounters (s : State) (x : Counters) : State := { s with counters := x }
def State.setMemory (s : State) (x : Memory) : State := { s with memory := x }
def State.setPort (s : State) (x : HostPort) : State := { s with port := x }
def State.setSettings (s : State) (x : Option Settings) : State := { s with settings := x }
def State.setPending (s : State) (x : List Instr) : State := { s with pending := x }

/-! ### Reads -/

/-- 00_scope.md 4.2: the station's own address. -/
def State.own (s : State) : Station := s.straps.address

/-- R176: CONFIGURE has been taken since the last reset. -/
def State.configured (s : State) : Bool := s.settings.isSome

/-- R37: the entry of an address. -/
def State.peer (s : State) (p : Station) : PeerEntry := s.peers.entries[p]

/-- R51: send pair record (P, i). -/
def State.sendPair (s : State) (p : Station) (i : InboxIx) : SendPair := (s.peer p).send[i]

/-- R53: credit hint (P, i); `none` is UNKNOWN. -/
def State.hint (s : State) (p : Station) (i : InboxIx) : Option Offer := (s.peer p).hints[i]

/-- R52: receive pair record (P, i); `none` is FRESH. -/
def State.receivePair (s : State) (p : Station) (i : InboxIx) : Option Seq := (s.peer p).receive[i]

/-- R57: a descriptor. -/
def State.desc (s : State) (d : DescIx) : Descriptor := s.store.descriptors[d]

/-- R61: a fan-out list. -/
def State.fanout (s : State) (n : ListIx) : List Station := s.store.lists[n]

/-- R62: a send queue. -/
def State.queue (s : State) (q : QueueIx) : QueueState := s.queues[q]

/-- R103: an inbox. -/
def State.inbox (s : State) (i : InboxIx) : Inbox := s.inboxes[i]

/-- R136: a notice word. -/
def State.word (s : State) (w : WordIx) : NoticeWord := s.words[w]

/-- R104: an inbox's configuration; before CONFIGURE it is not enabled. -/
def State.inboxSetting (s : State) (i : InboxIx) : InboxSetting :=
  match s.settings with
  | some c => c.inboxes[i]
  | none => { enabled := false, broadcast := false, sources := 0 }

/-- R136: a word's access; before CONFIGURE it admits no station. -/
def State.access (s : State) (w : WordIx) : Access :=
  match s.settings with
  | some c => c.access[w]
  | none => .closed

/-- R62: a queue's class and log-all setting. -/
def State.queueSetting (s : State) (q : QueueIx) : QueueSetting :=
  match s.settings with
  | some c => c.queues[q]
  | none => { urgent := false, logAll := false }

/-- R175: the retry limit. -/
def State.retryLimit (s : State) : Nat := (s.settings.map (·.retryLimit)).getD 0

/-- R175: patience. -/
def State.patience (s : State) : Nat := (s.settings.map (·.patience)).getD 0

/-- R5: the epoch the part's own frames carry. -/
def State.epoch (s : State) : Epoch := (s.settings.map (·.epoch)).getD 0

/-- R124: the hold limit in bit times. -/
def State.holdTicks (s : State) : Nat :=
  (s.settings.map (·.holdLimit)).getD 0 * bitTimesPerMs s.straps.rate

/-! ### One element of a block's table -/

def State.setPeer (s : State) (p : Station) (e : PeerEntry) : State :=
  s.setPeers { s.peers with entries := put s.peers.entries p e }

def State.setSendPair (s : State) (p : Station) (i : InboxIx) (r : SendPair) : State :=
  s.setPeer p { s.peer p with send := put (s.peer p).send i r }

def State.setHint (s : State) (p : Station) (i : InboxIx) (h : Option Offer) : State :=
  s.setPeer p { s.peer p with hints := put (s.peer p).hints i h }

def State.setReceivePair (s : State) (p : Station) (i : InboxIx) (r : Option Seq) : State :=
  s.setPeer p { s.peer p with receive := put (s.peer p).receive i r }

def State.setDesc (s : State) (d : DescIx) (x : Descriptor) : State :=
  s.setStore { s.store with descriptors := put s.store.descriptors d x }

def State.setFanout (s : State) (n : ListIx) (l : List Station) : State :=
  s.setStore { s.store with lists := put s.store.lists n l }

def State.setQueue (s : State) (q : QueueIx) (x : QueueState) : State :=
  s.setQueues (put s.queues q x)

def State.setInbox (s : State) (i : InboxIx) (x : Inbox) : State :=
  s.setInboxes (put s.inboxes i x)

def State.setWord (s : State) (w : WordIx) (x : NoticeWord) : State :=
  s.setWords (put s.words w x)

/-! ### Small shared changes -/

/-- R41: PEER_CHANGE is latched. -/
def State.latchPeerChange (s : State) : State :=
  s.setAttention { s.attention with peerChange := true }

/-- R48: PEER_RESTART is latched. -/
def State.latchPeerRestart (s : State) : State :=
  s.setAttention { s.attention with peerRestart := true }

/-- R62: QUEUE_IDLE(q) is latched. -/
def State.latchQueueIdle (s : State) (q : QueueIx) : State :=
  s.setAttention { s.attention with queueIdle := put s.attention.queueIdle q true }

/-- R160: QUIET_ENTERED is latched. -/
def State.latchQuietEntered (s : State) : State :=
  s.setAttention { s.attention with quietEntered := true }

/-- R163: LINE_STUCK is latched. -/
def State.latchLineStuck (s : State) : State :=
  s.setAttention { s.attention with lineStuck := true }

/-- R167: a diagnostic counter advances, only while the station is configured. -/
def State.countInvalid (s : State) : State :=
  if s.configured then
    s.setCounters { s.counters with invalid := satAdd counterLimit s.counters.invalid 1 }
  else s

/-- R167. -/
def State.countCollision (s : State) : State :=
  if s.configured then
    s.setCounters { s.counters with collisions := satAdd counterLimit s.counters.collisions 1 }
  else s

/-- R167. -/
def State.countNoReply (s : State) : State :=
  if s.configured then
    s.setCounters { s.counters with noReply := satAdd counterLimit s.counters.noReply 1 }
  else s

/-- R167. -/
def State.countDrop (s : State) : State :=
  if s.configured then
    s.setCounters { s.counters with drops := satAdd counterLimit s.counters.drops 1 }
  else s

/-- R4, R21: the line state. -/
def State.setLine (s : State) (l : LineState) : State := s.setTrunk { s.trunk with line := l }

/-- R18: the station trunk state. -/
def State.setTrunkState (s : State) (t : TrunkState) : State := s.setClaim { s.claim with state := t }

/-- R20: L. -/
def State.setLastWinner (s : State) (l : Station) : State := s.setClaim { s.claim with lastWinner := l }

end Sys2Proof.Machine
end

