-- ==== Sys2Proof/Machine/SendEngine.lean ====
section
/-!
DEFINITION. The send engine (chapters 4, 5 and 7): taking and validating a descriptor, destination
steps, the pair lock and its hand-over, settlement, write-back and following the link, and the end of
a step.
-/

namespace Sys2Proof.Machine

/-! ### Reading a context -/

/-- R68: the station of the step under way; `none` for ALL. -/
def Context.station (c : Context) : Option Station :=
  match c.destinations with
  | .one p => some p
  | .list l => l[c.current - 1]?
  | .all => none

/-- R62: the number of destinations. -/
def Context.destCount (c : Context) : Nat :=
  match c.destinations with
  | .one _ => 1
  | .list l => l.length
  | .all => 1

/-- R79: only the steps of a MESSAGE concern a send pair. -/
def Context.isMessage (c : Context) : Bool := c.copy.kind == .message

/-- R79: the send pair of the step under way; none for NOTICE and BROADCAST steps. -/
def Context.pair (c : Context) : Option (Station × InboxIx) :=
  if c.isMessage then c.station.map fun p => (p, c.copy.inbox) else none

/-- R62: the in-flight context of a queue. -/
def QueueState.context : QueueState → Option Context
  | .running c | .held c | .blockedLog c | .stopping c => some c
  | .stopped | .waitingAt _ | .waitingAfter _ => none

/-- R62: the queue is WAITING. -/
def QueueState.isWaiting : QueueState → Bool
  | .waitingAt _ | .waitingAfter _ => true
  | .stopped | .running _ | .held _ | .blockedLog _ | .stopping _ => false

/-- R149: the queue waits for room in the log: settled, and not yet written back. -/
def QueueState.waitsForRoom : QueueState → Bool
  | .blockedLog _ => true
  | .stopping c => c.outcome.isSome
  | .stopped | .waitingAt _ | .waitingAfter _ | .running _ | .held _ => false

/-- R73: a frame of the queue is on the trunk, from its grant to its finding, or to the close of its
reply watch. -/
def State.frameOnTrunk (s : State) (q : QueueIx) : Bool :=
  (match s.trunk.transmission with
    | some t => (match t.item with | .queue q' _ => q' == q | _ => false)
    | none => false) ||
  (match s.trunk.watch with
    | some w => w.queue == q
    | none => false)

/-! ### Taking a descriptor (R63, R64) -/

/-- R57: armed and with no holder. -/
def State.available (s : State) (d : DescIx) : Bool := (s.desc d).armed && (s.desc d).holder.isNone

/-- R64: buffer address plus length lies in packet memory and the length is 1..512. -/
def HostFields.bufferValid (h : HostFields) : Bool :=
  decide (1 ≤ h.length.val) && decide (h.length.val ≤ maxPayload) &&
    decide (h.address.val + h.length.val ≤ memorySize)

/-- R64: the checks on a copy with its destinations. -/
def copyValid (own : Station) (h : HostFields) (dests : Destinations) : Bool :=
  match h.kind, h.destination, dests with
  | .message, .station p, _ => decide (p ≠ own) && h.bufferValid
  | .message, .list _, .list l => !l.isEmpty && !l.contains own && h.bufferValid
  | .message, .list _, _ => false
  | .message, .all, _ => false
  | .broadcast, .all, _ => h.bufferValid
  | .broadcast, _, _ => false
  | .notice, .station p, _ => decide (p ≠ own)
  | .notice, _, _ => false

/-- R63, item 3: the destinations of a copy. -/
def State.destinationsOf (s : State) (h : HostFields) : Destinations :=
  match h.destination with
  | .station p => .one p
  | .list n => .list (s.fanout n)
  | .all => .all

/-- R63, items 2 to 4: the context made at a taking. -/
def State.newContext (s : State) (d : DescIx) : Context :=
  let copy := (s.desc d).host
  let c : Context :=
    { head := d, copy, destinations := s.destinationsOf copy, current := 1, outcomes := [],
      stepAttempts := 0, fullCount := 0, hold := none, attempts := 0, late := 0, outcome := none,
      lock := .none, unconfirmed := false, seqSent := none }
  { c with outcomes := List.replicate c.destCount .notTried }

/-! ### The pair lock (R79 to R81) -/

/-- R81: the reading of the credit hint; 0 holds the queue with its hold timer started. -/
def State.readHint (s : State) (q : QueueIx) (c : Context) (p : Station) (i : InboxIx) : State :=
  if s.hint p i = some 0 then s.setQueue q (.held { c with hold := some s.holdTicks })
  else s.setQueue q (.running c)

/-- R81, R124: the same reading for the step under way of any kind; only a MESSAGE step reads it. -/
def State.continueStep (s : State) (q : QueueIx) (c : Context) : State :=
  match c.pair with
  | some (p, i) => s.readHint q c p i
  | none => s.setQueue q (.running c)

/-- R79: the current step of a queue awaits the lock of (P, i). -/
def QueueState.awaits (st : QueueState) (p : Station) (i : InboxIx) : Option Context :=
  match st with
  | .running c => if c.lock = .awaited ∧ c.pair = some (p, i) then some c else none
  | _ => none

/-- R80: the first queue in the order q + 1, q + 2, q + 3, modulo 4, that awaits the lock. -/
def State.firstAwaiting (s : State) (q : QueueIx) (p : Station) (i : InboxIx) :
    Option (QueueIx × Context) :=
  [q + 1, q + 2, q + 3].findSome? fun q' => ((s.queue q').awaits p i).map fun c => (q', c)

/-- R79, R80: the record's lock. -/
def State.setLock (s : State) (p : Station) (i : InboxIx) (l : Option QueueIx) : State :=
  s.setSendPair p i { s.sendPair p i with lock := l }

/-- R80: release with its hand-over. -/
def State.releaseLock (s : State) (q : QueueIx) (p : Station) (i : InboxIx) : State :=
  match s.firstAwaiting q p i with
  | some (q', c) => (s.setLock p i (some q')).readHint q' { c with lock := .taken } p i
  | none => s.setLock p i none

/-! ### Beginning steps (R68, R79) -/

/-- What beginning a message's steps leads to: a step under way, or every remaining destination
decided at once. -/
inductive Progress where
  | underWay (s : State)
  | decided (c : Context) (s : State)

/-- R95, item 3: the outcome of the step under way is recorded. -/
def Context.record (c : Context) (o : Outcome) : Context :=
  { c with outcomes := c.outcomes.set (c.current - 1) o }

/-- R68, R78: the context at the beginning of a step. -/
def Context.freshStep (c : Context) : Context :=
  { c with stepAttempts := 0, fullCount := 0, hold := none, lock := .none, unconfirmed := false,
           seqSent := none }

/-- R79: a MESSAGE step takes the lock of its pair or awaits it. -/
def State.takeLock (s : State) (q : QueueIx) (c : Context) (p : Station) (i : InboxIx) : State :=
  match (s.sendPair p i).lock with
  | none => (s.setLock p i (some q)).readHint q { c with lock := .taken } p i
  | some _ => s.setQueue q (.running { c with lock := .awaited })

/-- R68: the step toward one station that is not SILENT begins, or the step of a BROADCAST. -/
def State.beginStep (s : State) (q : QueueIx) (c : Context) : State :=
  match c.pair with
  | some (p, i) => s.takeLock q c p i
  | none => s.setQueue q (.running c)

/-- R68: whether the step's station is SILENT. -/
def State.silentStep (s : State) (c : Context) : Bool :=
  match c.station with
  | some p => (s.peer p).state == .silent
  | none => false

/-- R68, R96: steps begin from the current destination on, those toward a SILENT peer being decided
PEER_SILENT at once; `left` is the number of destinations after the current one. -/
def State.beginSteps (s : State) (q : QueueIx) (c : Context) : (left : Nat) → Progress
  | 0 =>
    let c := c.freshStep
    if s.silentStep c then .decided (c.record .peerSilent) s else .underWay (s.beginStep q c)
  | left + 1 =>
    let c := c.freshStep
    if s.silentStep c then
      s.beginSteps q { c.record .peerSilent with current := c.current + 1 } left
    else .underWay (s.beginStep q c)

/-- R96: the destinations after the current one. -/
def Context.left (c : Context) : Nat := c.destCount - c.current

/-! ### Settlement (R70 to R72, R146) -/

/-- R70: the outcome of a message that failed no check of R64. -/
def Context.messageOutcome (c : Context) : Outcome :=
  match c.copy.kind, c.destinations with
  | .message, .list _ =>
    if c.outcomes.all (· == .delivered) then .delivered
    else if c.outcomes.any (· == .delivered) then .partDelivered
    else .undelivered
  | _, _ => c.outcomes.headD .notTried

/-- R71, item 2: the outcome formed at settlement; a MALFORMED one is already formed. -/
def Context.settledOutcome (c : Context) : Outcome := c.outcome.getD c.messageOutcome

/-- R70: the per-destination list, of a fan-out MESSAGE that was not malformed. -/
def Context.perDest (c : Context) : Option (List (Station × Outcome)) :=
  match c.copy.kind, c.destinations with
  | .message, .list l => if c.settledOutcome = .malformed then none else some (l.zip c.outcomes)
  | _, _ => none

/-- R146, item 3: the outcomes that need no record of themselves. -/
def Outcome.ordinary : Outcome → Bool
  | .delivered | .sent | .taken => true
  | .noReply | .refusedFull | .tooLong | .closed | .peerSilent | .stopped | .notTried
  | .partDelivered | .undelivered | .overwrote | .malformed => false

/-- R146: a completion record is required. -/
def State.recordRequired (s : State) (q : QueueIx) (c : Context) : Bool :=
  c.copy.notify || (s.queueSetting q).logAll || !c.settledOutcome.ordinary || decide (0 < c.late)

/-- R145: the completion record of a settled message. -/
def Context.completion (c : Context) (q : QueueIx) : CompletionRecord :=
  { queue := q, descriptor := c.head, outcome := c.settledOutcome, attempts := c.attempts,
    late := c.late, perDest := c.perDest }

/-- R58, R71: the part fields written back, the descriptor disarmed and its holder none. -/
def State.writeBack (s : State) (c : Context) : State :=
  s.setDesc c.head
    { s.desc c.head with
      armed := false, holder := none, outcome := some c.settledOutcome, attempts := c.attempts,
      late := c.late, perDest := c.perDest }

/-- R147: a record is appended at the tail. -/
def State.appendRecord (s : State) (r : CompletionRecord) : State := s.setLog (s.log ++ [r])

/-- R71, item 3, with room or with no record required: write-back, disarm and append together. -/
def State.handBack (s : State) (q : QueueIx) (c : Context) : State :=
  if s.recordRequired q c then (s.writeBack c).appendRecord (c.completion q) else s.writeBack c

/-- R71, item 3: the hand-off must wait for room in the log. -/
def State.mustWait (s : State) (q : QueueIx) (c : Context) : Bool :=
  s.recordRequired q c && decide (logLimit ≤ s.log.length)

/-- R149: the context of a queue that waits for room, its outcome formed. -/
def Context.settled (c : Context) : Context := { c with outcome := some c.settledOutcome }

/-- R62: a queue enters WAITING; QUEUE_IDLE is latched if it comes from another state. -/
def State.enterWaiting (s : State) (q : QueueIx) (st : QueueState) : State :=
  if (s.queue q).isWaiting then s.setQueue q st else (s.setQueue q st).latchQueueIdle q

/-- R63: descriptor `d`, being available, is taken: the holder, the context, and the first step, or
the settlement of a malformed one (R64). -/
def State.takeDescriptor (s : State) (q : QueueIx) (d : DescIx) : Progress :=
  let c := s.newContext d
  let s := (s.setDesc d { s.desc d with holder := some q }).setQueue q (.running c)
  if copyValid s.own c.copy c.destinations then s.beginSteps q c c.left
  else .decided { c with outcome := some .malformed } s

/-- R63, R72: queue `q` arrives at `d`. It takes an available descriptor; a message settled at once is
handed back and its link followed. Each taking that leads on disarms its descriptor, so `fuel` of 129
arrivals is never used up (log entry 20). -/
def State.arrive (s : State) (q : QueueIx) (d : DescIx) : (fuel : Nat) → State
  | 0 => s.enterWaiting q (.waitingAt d)
  | fuel + 1 =>
    if s.available d then
      match s.takeDescriptor q d with
      | .underWay s => s
      | .decided c s =>
        if s.mustWait q c then s.setQueue q (.blockedLog c.settled)
        else
          let s := s.handBack q c
          match (s.desc d).host.link with
          | none => s.enterWaiting q (.waitingAfter d)
          | some e => s.arrive q e fuel
    else s.enterWaiting q (.waitingAt d)

/-- More arrivals than there are descriptors to take. -/
def arrivalFuel : Nat := 129

/-- R72: after the write-back of `head` the queue reads its link and leaves it. -/
def State.followLink (s : State) (q : QueueIx) (head : DescIx) : State :=
  match (s.desc head).host.link with
  | none => s.enterWaiting q (.waitingAfter head)
  | some e => s.arrive q e arrivalFuel

/-- R71: a message settles; `stopping` is whether the queue is stopping. -/
def State.settle (s : State) (q : QueueIx) (c : Context) (stopping : Bool) : State :=
  if s.mustWait q c then
    s.setQueue q (if stopping then .stopping c.settled else .blockedLog c.settled)
  else
    let s := s.handBack q c
    if stopping then s.setQueue q .stopped else s.followLink q c.head

/-! ### The end of a step (R95) -/

/-- R95, item 1: the blind count of an unconfirmed MESSAGE step's pair rises, 0..3. -/
def State.raiseBlind (s : State) (c : Context) : State :=
  match c.pair with
  | some (p, i) =>
    if c.unconfirmed then
      s.setSendPair p i { s.sendPair p i with blind := satAdd blindLimit (s.sendPair p i).blind 1 }
    else s
  | none => s

/-- R95, item 2: a lock taken is released with its hand-over. -/
def State.dropLock (s : State) (q : QueueIx) (c : Context) : State :=
  match c.pair with
  | some (p, i) => if c.lock = .taken then s.releaseLock q p i else s
  | none => s

/-- R95: the context when its step has ended. -/
def Context.ended (c : Context) (o : Outcome) : Context :=
  { c.record o with lock := .none, hold := none, seqSent := none }

/-- R95: the step of queue `q` is decided `o`. The message settles at its last destination, at
STOPPED, and when the queue is stopping; otherwise the next step begins. -/
def State.endStep (s : State) (q : QueueIx) (c : Context) (stopping : Bool) (o : Outcome) : State :=
  let s := (s.raiseBlind c).dropLock q c
  let c := c.ended o
  if stopping || o == .stopped || c.left == 0 then s.settle q c stopping
  else
    match s.beginSteps q { c with current := c.current + 1 } (c.left - 1) with
    | .underWay s => s
    | .decided c s => s.settle q c false

end Sys2Proof.Machine
end

