-- ==== Sys2Proof/Machine/InboxUnit.lean ====
section
/-!
DEFINITION. The receiving side (chapters 6, 7 and 8): the decisions on an arriving DATA, STEP, BCAST and
NOTICE, acceptance, the offered count, credit announcements and their withdrawal, and the REPLY each
decision composes.
-/

namespace Sys2Proof.Machine

/-- Membership in a set of stations. -/
def hasStation (set : StationSet) (p : Station) : Bool := set.getLsbD p.val

/-- R113: a station joins a set, where it stays once. -/
def addStation (set : StationSet) (p : Station) : StationSet := set ||| BitVec.twoPow 32 p.val

/-- R108: the offered count: the smallest of the free-list length, 64 minus the arrival-list length, and
63. -/
def Inbox.offered (x : Inbox) : Nat :=
  min (min x.free.length (arrivalLimit - x.arrivals.length)) 63

/-- R108: the offered count as an OFFER field carries it. -/
def Inbox.offer (x : Inbox) : Offer := Fin.ofNat 64 x.offered

/-- R130: a rise of the offered count from 0 while there are waiters makes an announcement pending. -/
def Inbox.announceRise (x before : Inbox) : Inbox :=
  if before.offered = 0 ∧ 1 ≤ x.offered ∧ x.waiters ≠ 0 then { x with announce := true } else x

/-- R131: an acceptance that brings the offered count back to 0 withdraws a pending announcement. -/
def Inbox.withdraw (x : Inbox) : Inbox := if x.offered = 0 then { x with announce := false } else x

/-- R105: a buffer record is appended at the tail of the free-buffer list. -/
def Inbox.post (x : Inbox) (b : Buffer) : Inbox := { x with free := x.free ++ [b] }.announceRise x

/-- R107: the oldest arrival record is removed. -/
def Inbox.take (x : Inbox) : Inbox := { x with arrivals := x.arrivals.drop 1 }.announceRise x

/-- R114: the lists after an acceptance into the head buffer. -/
def Inbox.accept (x : Inbox) (a : Arrival) : Inbox :=
  { x with free := x.free.drop 1, arrivals := x.arrivals ++ [a] }.withdraw

/-- R114 items 1 to 3, R117: the payload is written from the head buffer's address onward and the arrival
recorded. -/
def State.acceptInto (s : State) (i : InboxIx) (b : Buffer) (source : Station) (kind : ArrivalKind)
    (payload : List Octet) (seq : Option Seq) : State :=
  (s.setMemory (s.memory.writeOctets b.address.val payload)).setInbox i
    ((s.inbox i).accept { source, kind, length := payload.length, buffer := b, seq })

/-- R110, Table 6-1, checks 1 and 2: the inbox is open to the source, and the SEQ follows the receive
pair record. -/
def State.dataOpen (s : State) (p : Station) (i : InboxIx) : Bool :=
  (s.inboxSetting i).enabled && hasStation (s.inboxSetting i).sources p

/-- Table 6-1: the decision on an arriving DATA; the buffer is the head buffer of an acceptance. -/
inductive DataDecision where
  | refuse (code : ReplyCode)
  | accept (b : Buffer)
deriving DecidableEq, Repr

/-- R110, R113: checks 3 to 5. -/
def State.decideRoom (s : State) (i : InboxIx) (length : Nat) : DataDecision :=
  if (s.inbox i).offered = 0 then .refuse .full
  else
    match (s.inbox i).free with
    | [] => .refuse .full
    | b :: _ => if b.capacity < length then .refuse .tooLong else .accept b

/-- R110 to R113, Table 6-1: the first check that applies. -/
def State.decideData (s : State) (p : Station) (i : InboxIx) (seq : Seq) (length : Nat) : DataDecision :=
  if !s.dataOpen p i then .refuse .closed
  else
    match s.receivePair p i with
    | some last =>
      if seq = last then .refuse .duplicate
      else if seq = last + 1 then s.decideRoom i length
      else .refuse .outOfStep
    | none => s.decideRoom i length

/-- R113: the source joins the waiter set of the inbox that refused it as FULL. -/
def State.addWaiter (s : State) (p : Station) (i : InboxIx) : State :=
  s.setInbox i { s.inbox i with waiters := addStation (s.inbox i).waiters p }

/-- R115, Table 6-2: a REPLY from the inbox unit, as the state stands after the decision. -/
def State.inboxReply (s : State) (p : Station) (i : InboxIx) (code : ReplyCode) : Frame :=
  { epoch := s.epoch, src := s.own, ch := i, dst := some p,
    body := .reply code.toOctet ((s.receivePair p i).getD 0) (s.receivePair p i).isNone
      (s.inbox i).offer }

/-- R28: a REPLY is composed, to begin at idle time 6. -/
def State.compose (s : State) (f : Frame) : State := s.setTrunk { s.trunk with reply := some f }

/-- R110, R114, R115: an arriving DATA is decided. -/
def State.dataArrives (s : State) (p : Station) (i : InboxIx) (seq : Seq) (payload : List Octet) :
    State :=
  match s.decideData p i seq payload.length with
  | .refuse .full =>
    let s := s.addWaiter p i
    s.compose (s.inboxReply p i .full)
  | .refuse code => s.compose (s.inboxReply p i code)
  | .accept b =>
    let s := (s.acceptInto i b p .data payload (some seq)).setReceivePair p i (some seq)
    s.compose (s.inboxReply p i .accepted)

/-- R116: a STEP is answered from the receive pair record and changes nothing. -/
def State.stepArrives (s : State) (p : Station) (i : InboxIx) : State :=
  s.compose (s.inboxReply p i .stepState)

/-- R117: the buffer an arriving BCAST is accepted into, if it is. -/
def State.bcastBuffer (s : State) (p : Station) (i : InboxIx) (length : Nat) : Option Buffer :=
  if s.dataOpen p i && (s.inboxSetting i).broadcast then
    match s.decideRoom i length with
    | .accept b => some b
    | .refuse _ => none
  else none

/-- R117: a BCAST is dropped and counted. -/
def State.dropBcast (s : State) (i : InboxIx) : State :=
  (s.setInbox i { s.inbox i with drops := satAdd counterLimit (s.inbox i).drops 1 }).countDrop

/-- R117: an arriving BCAST is accepted or dropped; a station that is not ACTIVE drops it. -/
def State.bcastArrives (s : State) (p : Station) (i : InboxIx) (payload : List Octet) (active : Bool) :
    State :=
  match (if active then s.bcastBuffer p i payload.length else none) with
  | some b => s.acceptInto i b p .bcast payload none
  | none => s.dropBcast i

/-- R136: a word admits a writer. -/
def Access.admits : Access → Station → Bool
  | .closed, _ => false
  | .opened, _ => true
  | .restricted s, p => decide (p = s)

/-- R138, Table 8-1: the reply code for a NOTICE from P to word w. -/
def State.noticeCode (s : State) (p : Station) (w : WordIx) : ReplyCode :=
  if !(s.access w).admits p then .noticeClosed
  else if (s.word w).unread then .noticeOverwrote
  else .noticeTaken

/-- R139, Table 8-2: a REPLY from the notice words. -/
def State.noticeReply (s : State) (p : Station) (code : ReplyCode) : Frame :=
  { epoch := s.epoch, src := s.own, ch := 0, dst := some p, body := .reply code.toOctet 0 false 0 }

/-- R138, R139: an arriving NOTICE is decided. -/
def State.noticeArrives (s : State) (p : Station) (w : WordIx) (v : Value) : State :=
  let code := s.noticeCode p w
  let s := if code = .noticeClosed then s
    else s.setWord w { value := v, writer := some p, unread := true }
  s.compose (s.noticeReply p code)

/-- R14, R109, R117, R137: what the inbox unit and the notice words do with a valid frame of another
station; `active` is whether the station was ACTIVE at the frame's end. -/
def State.arrival (s : State) (f : Frame) (active : Bool) : State :=
  if f.src = s.own then s
  else
    match f.body with
    | .bcast payload => s.bcastArrives f.src f.ch payload active
    | .data seq payload =>
      if active && f.dst == some s.own then s.dataArrives f.src f.ch seq payload else s
    | .step => if active && f.dst == some s.own then s.stepArrives f.src f.ch else s
    | .notice w v => if active && f.dst == some s.own then s.noticeArrives f.src w v else s
    | .credit .. | .presence .. | .reply .. => s

/-- R133: the clean end of the station's own CREDIT empties the waiter set and clears the pending flag. -/
def State.creditSent (s : State) (i : InboxIx) : State :=
  s.setInbox i { s.inbox i with waiters := 0, announce := false }

end Sys2Proof.Machine
end

