-- ==== Sys2Proof/Machine/Attempts.lean ====
section
/-!
DEFINITION. The attempts of a destination step (chapter 5): readiness and the frame a grant sends, the
trunk interface's finding on it, the results of the reply watch with re-anchoring and late discovery,
and QUEUE_STOP's effect on a step (R75, R101).
-/

namespace Sys2Proof.Machine

/-! ### Readiness and the granted frame (R69, R82, R83) -/

/-- R69: the queue is ready for the grant. -/
def State.queueReady (s : State) (q : QueueIx) : Bool :=
  match s.queue q with
  | .running c =>
    s.claim.state == .active && !s.frameOnTrunk q &&
      (match c.pair with
        | some (p, i) =>
          ((s.sendPair p i).lock == none || (s.sendPair p i).lock == some q) &&
            s.hint p i != some 0
        | none => true)
  | _ => false

/-- R82: the SEQ of a DATA granted now is anchor plus blind count plus one, modulo 16. -/
def SendPair.nextSeq (r : SendPair) : Seq := r.anchor + Fin.ofNat 16 r.blind + 1

/-- R83: the frame the step of a context calls for. -/
def State.stepFrame (s : State) (c : Context) : QueueFrame :=
  match c.copy.kind with
  | .broadcast => .bcast
  | .notice => .notice
  | .message =>
    match c.pair with
    | some (p, i) => if (s.sendPair p i).blind ≥ blindLimit then .step else .data
    | none => .data

/-- R5, R83: the octets fixed at the grant of a send queue's frame; the payload follows from packet
memory. -/
def State.queueLead (s : State) (c : Context) (f : QueueFrame) : List Octet :=
  let h := fun kind ch dst => headerOctets kind s.epoch s.own ch dst false
  match f with
  | .data =>
    let seq := match c.pair with
      | some (p, i) => (s.sendPair p i).nextSeq
      | none => 0
    h 1 c.copy.inbox c.station ++ dataControls seq c.copy.length.val
  | .bcast => h 2 c.copy.inbox none ++ bcastControls c.copy.length.val
  | .notice => h 3 0 c.station ++ (FrameBody.notice c.copy.word c.copy.value).controls
  | .step => h 4 c.copy.inbox c.station

/-- R82: SEQ sent is recorded at the grant of a DATA, and is absent for another frame. -/
def State.granted (s : State) (c : Context) (f : QueueFrame) : Context :=
  match f, c.pair with
  | .data, some (p, i) => { c with seqSent := some (s.sendPair p i).nextSeq }
  | _, _ => { c with seqSent := none }

/-! ### Findings (R84) -/

/-- R101: the queue is stopping, with the context of its unsettled message. -/
def QueueState.inFlight : QueueState → Option (Context × Bool)
  | .running c => some (c, false)
  | .stopping c => if c.outcome.isSome then none else some (c, true)
  | .stopped | .waitingAt _ | .waitingAfter _ | .held _ | .blockedLog _ => none

/-- R84, R101: a frame that collided or was returned unsent is no attempt; a stopping queue's step is
decided STOPPED. -/
def State.frameNotSent (s : State) (q : QueueIx) : State :=
  match (s.queue q).inFlight with
  | some (c, false) => s.setQueue q (.running { c with seqSent := none })
  | some (c, true) => s.endStep q c true .stopped
  | none => s

/-- R84, R97: the clean end of a queue's frame. A BCAST is SENT with attempts 1, its step attempts keeping
their count of 0 (log entry 29); a DATA, STEP or NOTICE is an attempt, and its reply watch opens (R17). -/
def State.frameSentClean (s : State) (q : QueueIx) (f : QueueFrame) : State :=
  match (s.queue q).inFlight with
  | some (c, stopping) =>
    match f with
    | .bcast => s.endStep q { c with attempts := 1 } stopping .sent
    | .data | .step | .notice =>
      let c := { c with stepAttempts := c.stepAttempts + 1,
                        attempts := satAdd attemptLimit c.attempts 1 }
      let s := s.setQueue q (if stopping then .stopping c else .running c)
      match c.station with
      | some p => s.setTrunk { s.trunk with watch := some { queue := q, frame := f, station := p } }
      | none => s
  | none => s

/-! ### Re-anchoring and late discovery (R86, R87, R94) -/

/-- What a REPLY taken by the watch carries beside its code (R85). -/
structure ReplyFields where
  last  : Seq
  fresh : Bool
  offer : Offer

/-- R86: the blind messages a reply shows delivered, and none where its LAST cannot have come from this
station's sending since the anchor. -/
def SendPair.discovered (r : SendPair) (f : ReplyFields) : Nat :=
  if f.fresh then 0
  else if (f.last - r.anchor).val ≤ r.blind then (f.last - r.anchor).val else 0

/-- R86: the record after re-anchoring. -/
def SendPair.reanchored (r : SendPair) (f : ReplyFields) : SendPair :=
  { r with anchor := if f.fresh then r.anchor else f.last, blind := 0 }

/-- R94: the late count grows and stops at 3. -/
def Context.addLate (c : Context) (k : Nat) : Context := { c with late := satAdd lateLimit c.late k }

/-- R86: re-anchoring of (P, i) from a reply to the step of a context. -/
def State.reanchor (s : State) (c : Context) (p : Station) (i : InboxIx) (f : ReplyFields) :
    State × Context :=
  (s.setSendPair p i ((s.sendPair p i).reanchored f),
    { c.addLate ((s.sendPair p i).discovered f) with unconfirmed := false, seqSent := none })

/-! ### Results of a DATA attempt (R87 to R91, R123) -/

/-- R87: the message is in the inbox; the blind messages before it were delivered. -/
def State.dataDelivered (s : State) (q : QueueIx) (c : Context) (stopping : Bool) (p : Station)
    (i : InboxIx) (f : ReplyFields) : State :=
  let r := s.sendPair p i
  let s := (s.setSendPair p i { r with anchor := c.seqSent.getD r.anchor, blind := 0 }).setHint p i
    (some f.offer)
  s.endStep q { c.addLate r.blind with unconfirmed := false } stopping .delivered

/-- R88: OUT_OF_STEP re-anchors, the step attempts return to 0, and the step continues. In a stopping queue
the step is decided STOPPED, and its step attempts keep their count (R101; log entry 28). -/
def State.dataOutOfStep (s : State) (q : QueueIx) (c : Context) (stopping : Bool) (p : Station)
    (i : InboxIx) (f : ReplyFields) : State :=
  let (s, c) := s.reanchor c p i f
  let s := s.setHint p i (some f.offer)
  if stopping then s.endStep q c true .stopped else s.continueStep q { c with stepAttempts := 0 }

/-- R123, item 3: the FULL count has reached the configured patience. -/
def State.patienceSpent (s : State) (count : Nat) : Bool :=
  decide (1 ≤ s.patience) && decide (s.patience ≤ count)

/-- R89, R123: FULL re-anchors, and is counted against patience; the step is REFUSED_FULL or HELD. A
stopping queue does not count it, and its step attempts keep their count (R101; log entry 28). -/
def State.dataFull (s : State) (q : QueueIx) (c : Context) (stopping : Bool) (p : Station)
    (i : InboxIx) (f : ReplyFields) : State :=
  let (s, c) := s.reanchor c p i f
  let s := s.setHint p i (some f.offer)
  if stopping then s.endStep q c true .stopped
  else
    let c := { c with stepAttempts := 0, fullCount := satAdd attemptLimit c.fullCount 1 }
    if s.patienceSpent c.fullCount then s.endStep q c false .refusedFull
    else s.setQueue q (.held { c with hold := some s.holdTicks })

/-- R90: TOO_LONG and CLOSED re-anchor and decide the step. -/
def State.dataRefused (s : State) (q : QueueIx) (c : Context) (stopping : Bool) (p : Station)
    (i : InboxIx) (f : ReplyFields) (o : Outcome) : State :=
  let (s, c) := s.reanchor c p i f
  (s.setHint p i (some f.offer)).endStep q c stopping o

/-- R93: STEP_STATE re-anchors, leaves the hint, and the step continues with its DATA. In a stopping queue
the step is decided STOPPED, and its step attempts keep their count (R101; log entry 28). -/
def State.stepState (s : State) (q : QueueIx) (c : Context) (stopping : Bool) (p : Station)
    (i : InboxIx) (f : ReplyFields) : State :=
  let (s, c) := s.reanchor c p i f
  if stopping then s.endStep q c true .stopped else s.continueStep q { c with stepAttempts := 0 }

/-- R91, R92, R98, R101: NO_REPLY. A DATA's step is then unconfirmed. Within the retry limit the step
continues, or is STOPPED if the queue is stopping; over it, the step is decided NO_REPLY. -/
def State.noReply (s : State) (q : QueueIx) (c : Context) (stopping : Bool) (f : QueueFrame) : State :=
  let c := { c with unconfirmed := c.unconfirmed || f == .data, seqSent := none }
  if s.retryLimit < c.stepAttempts then s.endStep q c stopping .noReply
  else if stopping then s.endStep q c true .stopped
  else s.continueStep q c

/-- R98: the outcome a NOTICE reply decides. -/
def noticeOutcome : ReplyCode → Outcome
  | .noticeTaken => .taken
  | .noticeOverwrote => .overwrote
  | _ => .closed

/-- R85 to R93, R98: a reply that the watch took is interpreted. -/
def State.replyTaken (s : State) (q : QueueIx) (c : Context) (stopping : Bool) (code : ReplyCode)
    (f : ReplyFields) : State :=
  match code with
  | .noticeTaken | .noticeOverwrote | .noticeClosed => s.endStep q c stopping (noticeOutcome code)
  | .accepted | .duplicate | .full | .tooLong | .closed | .outOfStep | .stepState =>
    match c.pair with
    | none => s
    | some (p, i) =>
      match code with
      | .accepted | .duplicate => s.dataDelivered q c stopping p i f
      | .outOfStep => s.dataOutOfStep q c stopping p i f
      | .full => s.dataFull q c stopping p i f
      | .tooLong => s.dataRefused q c stopping p i f .tooLong
      | .closed => s.dataRefused q c stopping p i f .closed
      | _ => s.stepState q c stopping p i f

/-! ### The reply watch (R17) -/

/-- R17: the code with which a frame answers the attempt a watch stands for, if it does. -/
def Watch.answer (w : Watch) (own : Station) (f : Frame) : Option (ReplyCode × ReplyFields) :=
  match f.body with
  | .reply code last fresh offer =>
    if f.src = w.station ∧ f.dst = some own then
      match replyCodeOf code with
      | some c => if c.fits w.frame then some (c, { last, fresh, offer }) else none
      | none => none
    else none
  | _ => none

/-- R17, R84: an open watch closes with its result, a reply or NO_REPLY, which is interpreted at that
instant; a NO_REPLY advances its counter (R167). -/
def State.closeWatch (s : State) (result : Option (ReplyCode × ReplyFields)) : State :=
  match s.trunk.watch with
  | none => s
  | some w =>
    let s := s.setTrunk { s.trunk with watch := none }
    match result with
    | some (code, f) =>
      match (s.queue w.queue).inFlight with
      | some (c, stopping) => s.replyTaken w.queue c stopping code f
      | none => s
    | none =>
      let s := s.countNoReply
      match (s.queue w.queue).inFlight with
      | some (c, stopping) => s.noReply w.queue c stopping w.frame
      | none => s

/-- R17: at the end of a valid frame an open watch judges it. -/
def State.judgeWatch (s : State) (f : Frame) : State :=
  match s.trunk.watch with
  | none => s
  | some w => s.closeWatch (w.answer s.own f)

/-! ### STOP (R73 to R75, R102) -/

/-- R73 to R75: QUEUE_STOP by the state of the queue. -/
def State.stopQueue (s : State) (q : QueueIx) : State :=
  match s.queue q with
  | .stopped | .stopping _ => s
  | .waitingAt _ | .waitingAfter _ => s.setQueue q .stopped
  | .blockedLog c => s.setQueue q (.stopping c)
  | .running c | .held c =>
    if s.frameOnTrunk q then s.setQueue q (.stopping c) else s.endStep q c true .stopped

end Sys2Proof.Machine
end

