-- ==== Sys2Proof/Machine/PeerTable.lean ====
section
/-!
DEFINITION. The peer table's events (chapters 3 and 7): hearing a peer and its restarts with what they
change in the steps under way (R39, R46 to R48, R99), the own presence (R43, R44), and CREDIT (R121,
R126).
-/

namespace Sys2Proof.Machine

/-- R46, R47: the frame marks P restarted: a FRESH_START presence, or an epoch that differs from the one
recorded. -/
def PeerEntry.restartedBy (e : PeerEntry) (epoch : Epoch) (freshStart : Bool) : Bool :=
  freshStart ||
    (match e.epoch with
      | some recorded => recorded != epoch
      | none => false)

/-- R48: the records of an entry after a restart. -/
def PeerEntry.restart (e : PeerEntry) : PeerEntry :=
  { e with
    send := mapTable (fun _ r => { r with blind := 0 }) e.send,
    hints := Vector.replicate 8 none,
    receive := Vector.replicate 8 none }

/-- R39, R46: the entry after a hearing: PRESENT, the frame's EPOCH recorded, the silence timer started. -/
def PeerEntry.heard (e : PeerEntry) (epoch : Epoch) (freshStart : Bool) : PeerEntry :=
  let e := if e.restartedBy epoch freshStart then e.restart else e
  { e with state := .present, epoch := some epoch, silence := some 0 }

/-- R99: a restart of P acts on a step toward P under way: it is no longer unconfirmed, and a MESSAGE
step that was querying at blind count 3 starts its attempts afresh. -/
def Context.peerRestarted (c : Context) (p : Station) (before : PeerEntry) : Context :=
  if c.outcome.isNone ∧ c.station = some p then
    { c with
      unconfirmed := false,
      stepAttempts :=
        if c.isMessage ∧ blindLimit ≤ (before.send[c.copy.inbox]).blind then 0 else c.stepAttempts }
  else c

/-- R50, R99: the queue keeps its state, lock and attempts otherwise. -/
def QueueState.peerRestarted (st : QueueState) (p : Station) (before : PeerEntry) : QueueState :=
  match st with
  | .running c => .running (c.peerRestarted p before)
  | .held c => .held (c.peerRestarted p before)
  | .stopping c => .stopping (c.peerRestarted p before)
  | .blockedLog c => .blockedLog c
  | .stopped => .stopped
  | .waitingAt d => .waitingAt d
  | .waitingAfter d => .waitingAfter d

/-- R48, R99: what a restart of P does outside P's entry. -/
def State.peerRestarted (s : State) (p : Station) (before : PeerEntry) : State :=
  (s.setQueues (mapTable (fun _ st => QueueState.peerRestarted st p before) s.queues)).latchPeerRestart

/-- R39: the station hears peer P. -/
def State.hear (s : State) (p : Station) (epoch : Epoch) (freshStart : Bool) : State :=
  let before := s.peer p
  let s := s.setPeer p (before.heard epoch freshStart)
  let s := if before.state = .present then s else s.latchPeerChange
  if before.restartedBy epoch freshStart then s.peerRestarted p before else s

/-- R44: an own clean claimed frame clears PRESENCE due and starts the own presence timer again. -/
def State.ownFrameHeard (s : State) : State :=
  s.setPeers { s.peers with presenceTimer := some 0, presenceDue := false }

/-- R38, R39, R44, R46 to R48: the peer table's part in the end of a valid frame, in a configured state:
the hearing of its source, or the station's own claimed frame. -/
def State.observe (s : State) (f : Frame) (own : Bool) : State :=
  if own then (if f.body.claimed then s.ownFrameHeard else s)
  else if f.src = s.own then s
  else s.hear f.src f.epoch f.body.freshStart

/-- R126: a CREDIT with OFFER of 1 or more releases the HELD queue whose step holds the pair's lock. -/
def State.releaseHeld (s : State) (p : Station) (i : InboxIx) (offer : Offer) : State :=
  if offer = 0 then s
  else
    match (s.sendPair p i).lock with
    | none => s
    | some q =>
      match s.queue q with
      | .held c => s.setQueue q (.running { c with hold := none })
      | _ => s

/-- R121, R126: a CREDIT from a peer announcing its inbox is heard. -/
def State.creditHeard (s : State) (f : Frame) (own : Bool) : State :=
  match f.body with
  | .credit offer =>
    if own ∨ f.src = s.own then s
    else (s.setHint f.src f.ch (some offer)).releaseHeld f.src f.ch offer
  | _ => s

/-- R40: the silence timer of a PRESENT peer expires. -/
def State.silenceExpired (s : State) (p : Station) : State :=
  let e := s.peer p
  if e.state = .present ∧ e.silence.isSome then
    (s.setPeer p { e with state := .silent, silence := none }).latchPeerChange
  else s

/-- R43: the own presence timer expires. -/
def State.presenceExpired (s : State) : State :=
  if s.peers.presenceTimer.isSome then
    s.setPeers { s.peers with presenceTimer := some 0, presenceDue := true }
  else s

/-- R125: the hold timer of a HELD queue expires. -/
def State.holdExpired (s : State) (q : QueueIx) : State :=
  match s.queue q with
  | .held c =>
    let s := s.setQueue q (.running { c with hold := none })
    match c.pair with
    | some (p, i) => s.setHint p i none
    | none => s
  | _ => s

end Sys2Proof.Machine
end

