-- ==== Sys2Proof/Machine/ClaimUnit.lean ====
section
/-!
DEFINITION. The claim unit and the trunk interface (chapters 1, 2 and 10): the line state and the station
trunk state with their changes, the local grant arbiter, transmissions and the findings on them, and the
end of an activity.
-/

namespace Sys2Proof.Machine

/-! ### Changes of the station trunk state (R18 to R36) -/

/-- R30: the join count as it stands when LISTENING is entered or an activity ends: running from 0 on an
IDLE line, waiting otherwise. -/
def State.startedJoinCount (s : State) : Option Nat := if s.trunk.line = .idle then some 0 else none

/-- R30: LISTENING is entered. -/
def State.enterListening (s : State) : State :=
  s.setClaim { s.claim with state := .listening, joinCount := s.startedJoinCount, quietTimer := none }

/-- R26, R31, R32: ACTIVE is entered; the first entry after CONFIGURE makes the FRESH_START presence
pending. -/
def State.enterActive (s : State) : State :=
  s.setClaim { s.claim with
    state := .active, joinCount := none,
    freshStartPending := s.claim.freshStartPending || s.claim.freshStartOwed,
    freshStartOwed := false }

/-- R29, R36: a REPLY composed and not yet begun is discarded. -/
def State.discardReply (s : State) : State := s.setTrunk { s.trunk with reply := none }

/-- R33: OFFLINE is entered; the join count and the quiet timer are discarded, and a REPLY not begun. -/
def State.enterOffline (s : State) : State :=
  (s.setClaim { s.claim with
    state := .offline, joinCount := none, quietTimer := none, leaveDeferred := false }).discardReply

/-- R160: QUIET is entered from ACTIVE. -/
def State.enterQuiet (s : State) : State :=
  (s.setClaim { s.claim with
    state := .quiet, collisionCount := 0, quietTimer := some quietTime }).latchQuietEntered.discardReply

/-- R33: the line state leaves ACTIVE_TX with deferred LEAVE set. -/
def State.finishLeave (s : State) : State := if s.claim.leaveDeferred then s.enterOffline else s

/-- R33, R34: the station is configured and not OFFLINE. -/
def TrunkState.onTrunk : TrunkState → Bool
  | .listening | .active | .quiet => true
  | .unconfigured | .offline => false

/-! ### Beginning a transmission (R15) -/

/-- R2: what an activity does at its beginning: the receive store is discarded, the join count stops, and
a REPLY that has not begun cannot begin any more (R29, log entry 13). -/
def State.beginActivity (s : State) (l : LineState) : State :=
  ((s.setTrunk { s.trunk with line := l, received := [], receivedCount := 0 }).setClaim
    { s.claim with joinCount := none }).discardReply

/-- R2: an activity that this station is not sending begins. -/
def State.activityBegins (s : State) : State :=
  if s.trunk.line = .idle then s.beginActivity .activeRx else s

/-- R2: the first 521 octets of an activity are kept and all are counted, until the next activity begins
(log entry 8). -/
def State.keepOctets (s : State) (octets : List Octet) : State :=
  s.setTrunk { s.trunk with received := octets.take keptOctets, receivedCount := octets.length }

/-- R15: an item handed over is begun on an IDLE line; in any other line state it is not started. -/
def State.transmit (s : State) (item : Item) (lead : List Octet) (address length : Nat) : State :=
  if s.trunk.line = .idle then
    let s := s.beginActivity .activeTx
    s.setTrunk { s.trunk with
      transmission := some { item, lead, address, length, sent := [], bit := 0, phase := .driving } }
  else s

/-- A frame whose octets are all fixed at the grant is begun. -/
def State.transmitFrame (s : State) (item : Item) (f : Frame) : State :=
  s.transmit item (f.lead ++ f.body.payload) 0 0

/-! ### The octets of a transmission (R15) -/

/-- The octets of a frame before its CRC. -/
def Transmission.bodyLength (t : Transmission) : Nat := t.lead.length + t.length

/-- Table 1-2: the octets of the whole frame. -/
def Transmission.total (t : Transmission) : Nat := t.bodyLength + 2

/-- R15: the octet that goes out next: fixed at the grant, read from packet memory now, or of the CRC of
what was read. -/
def Transmission.nextOctet (t : Transmission) (m : Memory) : Octet :=
  let n := t.sent.length
  if n < t.lead.length then t.lead.getD n 0
  else if n < t.bodyLength then m.read (t.address + (n - t.lead.length))
  else (crcOctets ((t.sent.take t.bodyLength).drop 1)).getD (n - t.bodyLength) 0

/-- One octet goes out. -/
def Transmission.sendOctet (t : Transmission) (m : Memory) : Transmission :=
  { t with sent := t.sent ++ [t.nextOctet m] }

/-- `n` octets go out. -/
def Transmission.sendOctets (t : Transmission) (m : Memory) : Nat → Transmission
  | 0 => t
  | n + 1 => (t.sendOctet m).sendOctets m n

/-- R15: the transmission is complete, every octet having gone out. -/
def Transmission.completed (t : Transmission) (m : Memory) : Transmission :=
  { t.sendOctets m (t.total - t.sent.length) with phase := .complete, bit := 0 }

/-! ### What the transmitter drives (R1, R15, R16) -/

/-- R1: the transmitter drives SPACE, or it releases the line and leaves it at MARK. -/
inductive TrunkDrive where
  | space
  | released
deriving DecidableEq, Repr

/-- R1: SPACE is driven for a bit of 0, and the line is released for a bit of 1. -/
def TrunkDrive.ofBit : Bool → TrunkDrive
  | false => .space
  | true => .released

/-- R1, R15: the drive in the bit time that comes next (log entry 23): bit `bit` of the ten in which the
octet on the line is sent, or the start bit of the octet that follows it. The line is released once the last
stop bit is complete, and when the transmission was cut short (R16). -/
def Transmission.drive (t : Transmission) : TrunkDrive :=
  match t.phase with
  | .driving =>
    if t.bit = 0 then if t.sent.length < t.total then .space else .released
    else .ofBit ((lineCharacter (t.sent.getLastD 0)).getLsbD t.bit)
  | .complete | .mismatched => .released

/-- R1, R4, R15: what the station drives on the trunk: its transmission in ACTIVE_TX, and nothing otherwise. -/
def State.drive (s : State) : TrunkDrive :=
  match s.trunk.line, s.trunk.transmission with
  | .activeTx, some t => t.drive
  | _, _ => .released

/-! ### The local grant arbiter (R24, R25) -/

/-- R24, item 2: the lowest-numbered inbox whose announcement is pending. -/
def State.pendingInbox (s : State) : Option InboxIx :=
  (List.finRange 8).find? fun i => (s.inbox i).announce

/-- R25: the first ready queue of a class in the order pointer + 1 .. pointer + 4, modulo 4. -/
def State.nextReady (s : State) (urgent : Bool) (pointer : QueueIx) : Option QueueIx :=
  [pointer + 1, pointer + 2, pointer + 3, pointer].find? fun q =>
    (s.queueSetting q).urgent == urgent && s.queueReady q

/-- What the arbiter grants. -/
inductive Grant where
  | freshStart
  | credit (i : InboxIx)
  | queue (q : QueueIx)
  | presence
deriving DecidableEq, Repr

/-- R24: the pending items in their order. -/
def State.arbitrate (s : State) : Option Grant :=
  if s.claim.freshStartPending then some .freshStart
  else
    match s.pendingInbox with
    | some i => some (.credit i)
    | none =>
      match s.nextReady true s.claim.lastUrgent with
      | some q => some (.queue q)
      | none =>
        match s.nextReady false s.claim.lastRoutine with
        | some q => some (.queue q)
        | none => if s.peers.presenceDue then some .presence else none

/-- R9, R45: the PRESENCE frame. -/
def State.presenceFrame (s : State) (freshStart : Bool) : Frame :=
  { epoch := s.epoch, src := s.own, ch := 0, dst := none, body := .presence freshStart }

/-- R132: the CREDIT frame of an inbox, with its offered count at the grant. -/
def State.creditFrame (s : State) (i : InboxIx) : Frame :=
  { epoch := s.epoch, src := s.own, ch := i, dst := none, body := .credit (s.inbox i).offer }

/-- R25: the pointer of the granted queue's class is set to its number. -/
def State.movePointer (s : State) (q : QueueIx) : State :=
  if (s.queueSetting q).urgent then s.setClaim { s.claim with lastUrgent := q }
  else s.setClaim { s.claim with lastRoutine := q }

/-- R25, R83: a send queue is granted: its pointer moves, SEQ sent is recorded, and the frame its step
calls for is begun, its payload to be read from the copy's buffer. -/
def State.grantQueue (s : State) (q : QueueIx) : State :=
  match s.queue q with
  | .running c =>
    let f := s.stepFrame c
    let lead := s.queueLead c f
    let s := (s.movePointer q).setQueue q (.running (s.granted c f))
    match f with
    | .data | .bcast => s.transmit (.queue q f) lead c.copy.address.val c.copy.length.val
    | .step | .notice => s.transmit (.queue q f) lead 0 0
  | _ => s

/-- R24: the granted item is handed to the trunk interface. -/
def State.grant (s : State) : Grant → State
  | .freshStart => s.transmitFrame .freshStart (s.presenceFrame true)
  | .credit i => s.transmitFrame (.credit i) (s.creditFrame i)
  | .queue q => s.grantQueue q
  | .presence => s.transmitFrame .presence (s.presenceFrame false)

/-- R25, R27, R84, R133: a granted item that is returned unsent stays pending as it was; of the grant of a
send queue the movement of its pointer stays. -/
def State.grantUnsent (s : State) : Grant → State
  | .queue q => (s.movePointer q).frameNotSent q
  | .freshStart | .credit _ | .presence => s

/-- R23: the own slot begins. -/
def State.slotBegins (s : State) : State :=
  if s.claim.state = .active ∧ s.trunk.line = .idle then
    match s.arbitrate with
    | some g => s.grant g
    | none => s
  else s

/-- R15, R23, R27: the own slot begins, and another station's activity begins at that instant between the
grant and the transmission: the granted item is returned unsent. -/
def State.slotOvertaken (s : State) : State :=
  if s.claim.state = .active ∧ s.trunk.line = .idle then
    match s.arbitrate with
    | some g => (s.grantUnsent g).activityBegins
    | none => s.activityBegins
  else s.activityBegins

/-- R10, R28, R29: the instant at which a composed REPLY begins, if the line is IDLE and the station
ACTIVE; it is discarded otherwise. -/
def State.replyBegins (s : State) : State :=
  match s.trunk.reply with
  | none => s
  | some f =>
    let s := s.discardReply
    if s.claim.state = .active ∧ s.trunk.line = .idle then s.transmitFrame .reply f else s

/-! ### Findings on a transmission (R16, R27, R157 to R161) -/

/-- R16: the finding that a transmission was clean, its activity having ended as a valid frame. -/
def Transmission.clean (t : Transmission) : Bool := t.phase == .complete

/-- Section 1.4: an item other than a REPLY is claimed. -/
def Item.claimed : Item → Bool
  | .reply => false
  | .freshStart | .credit _ | .queue .. | .presence => true

/-- R27, R159: the clean end of an item's frame, reported to its owner. The clean end of a PRESENCE acts
through the peer table (R44). -/
def State.itemClean (s : State) (item : Item) : State :=
  let s := if item.claimed then s.setClaim { s.claim with collisionCount := 0 } else s
  match item with
  | .freshStart => s.setClaim { s.claim with freshStartPending := false }
  | .credit i => s.creditSent i
  | .queue q f => s.frameSentClean q f
  | .presence | .reply => s

/-- R159, R160: a collided finding on a claimed item: the count rises, and at 8 an ACTIVE station enters
QUIET. -/
def State.claimCollided (s : State) : State :=
  let count := satAdd collisionLimit s.claim.collisionCount 1
  let s := s.setClaim { s.claim with collisionCount := count }
  if count = collisionLimit ∧ s.claim.state = .active then s.enterQuiet else s

/-- R27, R157, R161: a collided finding. The item stays pending as before its grant; a REPLY is gone. -/
def State.itemCollided (s : State) (item : Item) : State :=
  let s := s.countCollision
  let s := if item.claimed then s.claimCollided else s
  match item with
  | .queue q _ => s.frameNotSent q
  | .freshStart | .credit _ | .presence | .reply => s

/-- R16, R27, R157: the finding on the transmission the activity contained, if any. -/
def State.finding (s : State) (valid : Bool) : State :=
  match s.trunk.transmission with
  | none => s
  | some t =>
    let s := s.setTrunk { s.trunk with transmission := none }
    if valid && t.clean then s.itemClean t.item else s.itemCollided t.item

/-- R14: the own flag of the frame whose activity now ends. -/
def State.ownFrame (s : State) : Bool :=
  match s.trunk.transmission with
  | some t => t.clean
  | none => false

/-! ### The end of an activity (R3, R13, R14) -/

/-- R3, R4, R21, R33: the activity has ended: the line is IDLE, idle time starts at 0, and a deferred
LEAVE is done if the line state left ACTIVE_TX. -/
def State.lineEnds (s : State) : State :=
  let wasTx := s.trunk.line = .activeTx
  let s := s.setTrunk { s.trunk with line := .idle, unseenStart := false }
  let s := s.setClaim { s.claim with idleTime := 0 }
  if wasTx then s.finishLeave else s

/-- R20, R30: the claim unit at the end of invalid activity, in a configured state. -/
def State.claimInvalid (s : State) : State :=
  let s := s.setLastWinner 31
  if s.claim.state = .listening then s.setClaim { s.claim with joinCount := s.startedJoinCount } else s

/-- R20, R30, R31: the claim unit at the end of a valid frame, in a configured state. -/
def State.claimValid (s : State) (f : Frame) : State :=
  if f.body.claimed then
    let s := s.setLastWinner f.src
    if s.claim.state = .listening then s.enterActive else s
  else if s.claim.state = .listening then
    s.setClaim { s.claim with joinCount := s.startedJoinCount }
  else s

/-- R13: the end of invalid activity, reported to the claim unit, the counter, the reply watch and the
owner of a transmission it contained. -/
def State.invalidEnds (s : State) (octets : List Octet) : State :=
  let s := (s.keepOctets octets).lineEnds
  if s.configured then ((s.claimInvalid.countInvalid).closeWatch none).finding false else s

/-- R14: the end of a valid frame, in a configured state, block by block: the claim unit, the peer table,
the inbox unit and notice words, the credit hints, the reply watch, and the owner of a transmission the
activity contained (log entry 10). -/
def State.frameReported (s : State) (f : Frame) (active own : Bool) : State :=
  let s := (s.claimValid f).observe f own
  let s := if own then s else s.arrival f active
  ((s.creditHeard f own).judgeWatch f).finding true

/-- R14: the end of a valid frame; in UNCONFIGURED nothing the station hears is acted on (R18). -/
def State.validEnds (s : State) (f : Frame) (octets : List Octet) : State :=
  let active := decide (s.claim.state = .active)
  let own := s.ownFrame
  let s := (s.keepOctets octets).lineEnds
  if s.configured then s.frameReported f active own else s

/-- R3, R12: an activity of these characters ends and is judged; one whose beginning was not seen is
invalid (R4). -/
def State.activityEnds (s : State) (characters : List Character) : State :=
  match (if s.trunk.unseenStart then none else judge characters) with
  | some f => s.validEnds f (assemble characters).octets
  | none => s.invalidEnds (assemble characters).octets

/-! ### The stuck line (R163 to R166) -/

/-- R163 to R165: the line is found stuck, in a configured state: LINE_STUCK is latched, the station is in
LISTENING, the exchanges under way end. -/
def State.stuckExchanges (s : State) : State :=
  let s := s.latchLineStuck
  let s := s.setClaim { s.claim with leaveDeferred := false }
  let s := s.enterListening.discardReply
  (s.closeWatch none).finding false

/-- R163: the line is found stuck; the octets assembled until then are kept (R2). -/
def State.lineStuck (s : State) (octets : List Octet) : State :=
  let s := (s.keepOctets octets).setLine .stuck
  if s.configured then s.stuckExchanges else s

/-- R166: the line returns to idle; the stuck activity is reported as invalid. -/
def State.lineReturns (s : State) : State :=
  let s := s.lineEnds
  if s.configured then s.claimInvalid.countInvalid else s

end Sys2Proof.Machine
end

