-- ==== Sys2Proof/Machine/Clock.lean ====
section
/-!
DEFINITION. The part's clock: the events of time (slots, the reply window, the reply watch, the join
count, and the timers), and the passing of one bit time, which step gives the part while no command
waits (log entries 3 to 5).
-/

namespace Sys2Proof.Machine

/-! ### The events of time -/

/-- SLOT_BEGIN (R23). -/
def execSlotBegin (s : State) (overtaken : Bool := false) : Host.Outcome State Fault Refusal :=
  .next (if overtaken then s.slotOvertaken else s.slotBegins)

/-- REPLY_START (R28). -/
def execReplyStart (s : State) : Host.Outcome State Fault Refusal := .next s.replyBegins

/-- REPLY_WATCH_TIMEOUT (R17): a watch during which no activity has begun closes with NO_REPLY. -/
def execReplyWatchTimeout (s : State) : Host.Outcome State Fault Refusal :=
  .next (if s.trunk.line = .idle then s.closeWatch none else s)

/-- JOIN_QUIET (R32), while the join count runs. -/
def execJoinQuiet (s : State) : Host.Outcome State Fault Refusal :=
  .next (if s.claim.state = .listening ∧ s.claim.joinCount.isSome then
    (s.setLastWinner 31).enterActive else s)

/-- QUIET_TIMER_EXPIRY (R35), while the quiet timer runs. -/
def execQuietTimerExpiry (s : State) : Host.Outcome State Fault Refusal :=
  .next (if s.claim.state = .quiet ∧ s.claim.quietTimer.isSome then s.enterListening else s)

/-- SILENCE_TIMER_EXPIRY (R40). -/
def execSilenceTimerExpiry (peer : Station) (s : State) : Host.Outcome State Fault Refusal :=
  .next (s.silenceExpired peer)

/-- PRESENCE_TIMER_EXPIRY (R43). -/
def execPresenceTimerExpiry (s : State) : Host.Outcome State Fault Refusal := .next s.presenceExpired

/-- HOLD_TIMER_EXPIRY (R125). -/
def execHoldTimerExpiry (queue : QueueIx) (s : State) : Host.Outcome State Fault Refusal :=
  .next (s.holdExpired queue)

/-! ### One bit time -/

/-- R15: one bit time of a transmission; an octet is read as its start bit begins. -/
def Transmission.tick (t : Transmission) (m : Memory) : Transmission :=
  match t.phase with
  | .driving =>
    let t := if t.bit = 0 ∧ t.sent.length < t.total then t.sendOctet m else t
    { t with bit := (t.bit + 1) % 10 }
  | .complete | .mismatched => t

/-- R15: the last octet's stop bit is complete. -/
def Transmission.atEnd (t : Transmission) : Bool :=
  t.phase == .driving && t.bit == 0 && decide (t.total ≤ t.sent.length)

/-- R124: one bit time of a hold timer. -/
def QueueState.tick : QueueState → QueueState
  | .held c => .held { c with hold := c.hold.map (· - 1) }
  | .stopped => .stopped
  | .waitingAt d => .waitingAt d
  | .waitingAfter d => .waitingAfter d
  | .running c => .running c
  | .blockedLog c => .blockedLog c
  | .stopping c => .stopping c

/-- R40: one bit time of a silence timer. -/
def PeerEntry.tick (e : PeerEntry) : PeerEntry := { e with silence := e.silence.map (· + 1) }

/-- R21, R30, R35, R40, R43, R124: every count and timer that runs moves by one bit time. -/
def State.advance (s : State) : State :=
  let idle := decide (s.trunk.line = .idle)
  let s := s.setTrunk { s.trunk with transmission := s.trunk.transmission.map (·.tick s.memory) }
  let s := s.setClaim { s.claim with
    idleTime := if idle then s.claim.idleTime + 1 else s.claim.idleTime,
    joinCount := s.claim.joinCount.map (· + 1), quietTimer := s.claim.quietTimer.map (· - 1) }
  let s := s.setPeers { s.peers with
    entries := mapTable (fun _ e => e.tick) s.peers.entries,
    presenceTimer := s.peers.presenceTimer.map (· + 1) }
  s.setQueues (mapTable (fun _ st => st.tick) s.queues)

/-- A timer that counts up has reached its limit. -/
def reached (timer : Option Nat) (limit : Nat) : Bool :=
  match timer with
  | some n => decide (limit ≤ n)
  | none => false

/-- A timer that runs down has reached 0. -/
def runDown (timer : Option Nat) : Bool := timer == some 0

/-- R43: the presence interval in bit times. -/
def State.presenceTicks (s : State) : Nat :=
  match s.settings with
  | some c => presenceMs c.presence * bitTimesPerMs s.straps.rate
  | none => 0

/-- R40: the silence limit in bit times. -/
def State.silenceTicks (s : State) : Nat :=
  match s.settings with
  | some c => silenceMs c.presence * bitTimesPerMs s.straps.rate
  | none => 0

/-- R125: the hold timer of a queue has run down. -/
def QueueState.holdOver : QueueState → Bool
  | .held c => runDown c.hold
  | _ => false

/-- R32: the join count has reached the join quiet. -/
def State.joinDue (s : State) : Bool := reached s.claim.joinCount joinQuietTime

/-- R22, R32: the own slot as it stands once a join due at this instant has been made. -/
def State.slotNow (s : State) : Station :=
  ownSlot s.own (if s.joinDue then 31 else s.claim.lastWinner)

/-- An event that is due, or nothing. -/
def dueIf (b : Bool) (c : Instr) : List Instr := if b then [c] else []

/-- The events due at this instant, in the order in which they are then taken (log entry 5). -/
def State.dueEvents (s : State) : List Instr :=
  let idle := decide (s.trunk.line = .idle)
  dueIf (s.trunk.transmission.any (·.atEnd)) .transmissionComplete ++
  dueIf (runDown s.claim.quietTimer) .quietTimerExpiry ++
  dueIf s.joinDue .joinQuiet ++
  ((List.finRange 32).filter fun p => reached (s.peer p).silence s.silenceTicks).map
    .silenceTimerExpiry ++
  dueIf (reached s.peers.presenceTimer s.presenceTicks) .presenceTimerExpiry ++
  ((List.finRange 4).filter fun q => (s.queue q).holdOver).map .holdTimerExpiry ++
  dueIf (idle && s.trunk.reply.isSome && decide (replyTime ≤ s.claim.idleTime)) .replyStart ++
  dueIf (idle && s.trunk.watch.isSome && decide (watchTime ≤ s.claim.idleTime)) .replyWatchTimeout ++
  dueIf (idle && slotBeginsAt s.slotNow s.claim.idleTime) (.slotBegin false)

/-- One bit time passes: every count moves, and the events that fall due are put on the queue. -/
def State.tick (s : State) : State := s.advance.setPending s.advance.dueEvents

end Sys2Proof.Machine
end

