-- ==== Sys2Proof/Machine/Flags.lean ====
section
/-!
DEFINITION. The 21 event flags (Table 9-1) and ATTN, as functions of the state (R151, R155): a
condition flag is read from the list or flag it describes, a latched event is stored.
-/

namespace Sys2Proof.Machine

/-- R107: ARRIVAL(i) is set while the arrival list holds a record. -/
def State.arrivalFlag (s : State) (i : InboxIx) : Bool := !(s.inbox i).arrivals.isEmpty

/-- R143: NOTICE(w) is the unread flag. -/
def State.noticeFlag (s : State) (w : WordIx) : Bool := (s.word w).unread

/-- R147: LOG is set while the log holds a record. -/
def State.logFlag (s : State) : Bool := !s.log.isEmpty

/-- Table 9-1: the flags in the order of their numbers 0..20. -/
def State.eventFlags (s : State) : List Bool :=
  [s.arrivalFlag 0, s.arrivalFlag 1, s.arrivalFlag 2, s.arrivalFlag 3, s.arrivalFlag 4,
    s.arrivalFlag 5, s.arrivalFlag 6, s.arrivalFlag 7, s.noticeFlag 0, s.noticeFlag 1,
    s.noticeFlag 2, s.noticeFlag 3, s.logFlag, s.attention.peerChange, s.attention.peerRestart,
    s.attention.queueIdle[0], s.attention.queueIdle[1], s.attention.queueIdle[2],
    s.attention.queueIdle[3], s.attention.quietEntered, s.attention.lineStuck]

/-- R151: the state of flag `n`. -/
def State.eventFlag (s : State) (n : Nat) : Bool := s.eventFlags.getD n false

/-- R153: the flags as EVENTS_READ reports them, bit n for flag n. -/
def State.flagWord (s : State) : BitVec 21 := BitVec.ofNat 21 (bitsToNat s.eventFlags)

/-- R155: ATTN is asserted exactly when an enabled event flag is set; while RST is held low it is
released. -/
def State.attn (s : State) : Bool := s.rst == .high && s.flagWord &&& s.attention.mask != 0

/-- R153: the latched events with those a selection names cleared; conditions are left. -/
def Attention.clear (a : Attention) (selection : BitVec 24) : Attention :=
  { a with
    peerChange := a.peerChange && !selection.getLsbD 13,
    peerRestart := a.peerRestart && !selection.getLsbD 14,
    queueIdle := mapTable (fun q b => b && !selection.getLsbD (15 + q.val)) a.queueIdle,
    quietEntered := a.quietEntered && !selection.getLsbD 19,
    lineStuck := a.lineStuck && !selection.getLsbD 20 }

end Sys2Proof.Machine
end

