-- ==== Sys2Proof/Machine/Operands.lean ====
section
/-!
DEFINITION. The parameter fields of the host commands (Tables 11-2 and 11-3): the command codes, the
octets a command is carried by, and every field with the range check that refuses it (R175, R180).
-/

namespace Sys2Proof.Machine

/-- Table 11-2: the command code of each host command; the trunk's and the clock's events, the edges
of SEL and the undefined codes have none. -/
def commandCode : Instr → Option Octet
  | .ident => some 0x01
  | .configure .. => some 0x02
  | .restart .. => some 0x03
  | .leave => some 0x04
  | .join => some 0x05
  | .memWrite .. => some 0x10
  | .memRead .. => some 0x11
  | .descWrite .. => some 0x20
  | .descRead .. => some 0x21
  | .descDisarm .. => some 0x22
  | .listWrite .. => some 0x23
  | .queueStart .. => some 0x30
  | .queueResume .. => some 0x31
  | .queueStop .. => some 0x32
  | .queueRead .. => some 0x33
  | .inboxPost .. => some 0x40
  | .inboxTake .. => some 0x41
  | .inboxRead .. => some 0x42
  | .noticeTake .. => some 0x48
  | .logTake => some 0x50
  | .peerRead .. => some 0x58
  | .eventsRead => some 0x60
  | .eventsClear .. => some 0x61
  | .maskWrite .. => some 0x62
  | .countersTake => some 0x68
  | .unknownCommand .. | .hardReset .. | .activityStart | .transmitMismatch | .transmissionComplete
  | .validFrameEnd .. | .invalidActivityEnd .. | .lineFoundStuck .. | .returnToIdle | .slotBegin ..
  | .replyStart | .replyWatchTimeout | .joinQuiet | .quietTimerExpiry | .silenceTimerExpiry ..
  | .presenceTimerExpiry | .holdTimerExpiry .. | .selFall | .selRise => none

/-- Table 11-2: the command codes it defines. -/
def definedCodes : List Octet :=
  [0x01, 0x02, 0x03, 0x04, 0x05, 0x10, 0x11, 0x20, 0x21, 0x22, 0x23, 0x30, 0x31, 0x32, 0x33, 0x40,
    0x41, 0x42, 0x48, 0x50, 0x58, 0x60, 0x61, 0x62, 0x68]

/-- R171, Table 11-3: the parameter octets a host command is carried by, after its code. -/
def parameterOctets : Instr → List Octet
  | .configure params => params
  | .memWrite address count data => octetsOf 2 address.toNat ++ octetsOf 2 count.toNat ++ data
  | .memRead address count => octetsOf 2 address.toNat ++ octetsOf 2 count.toNat
  | .descWrite index kindByte destByte channelByte address length value link =>
    [index, kindByte, destByte, channelByte] ++ octetsOf 2 address.toNat ++ octetsOf 2 length.toNat ++
      octetsOf 4 value.toNat ++ [link]
  | .descRead index | .descDisarm index => [index]
  | .listWrite list count stations => [list, count] ++ stations
  | .queueStart queue index => [queue, index]
  | .queueResume queue | .queueStop queue | .queueRead queue => [queue]
  | .inboxPost inbox address capacity =>
    [inbox] ++ octetsOf 2 address.toNat ++ octetsOf 2 capacity.toNat
  | .inboxTake inbox | .inboxRead inbox => [inbox]
  | .noticeTake word => [word]
  | .peerRead station => [station]
  | .eventsClear flags | .maskWrite flags => octetsOf 3 flags.toNat
  | .ident | .restart .. | .leave | .join | .logTake | .eventsRead | .countersTake
  | .unknownCommand .. | .hardReset .. | .activityStart | .transmitMismatch | .transmissionComplete
  | .validFrameEnd .. | .invalidActivityEnd .. | .lineFoundStuck .. | .returnToIdle | .slotBegin ..
  | .replyStart | .replyWatchTimeout | .joinQuiet | .quietTimerExpiry | .silenceTimerExpiry ..
  | .presenceTimerExpiry | .holdTimerExpiry .. | .selFall | .selRise => []

/-- R171: the octets that carry a host command: its code and its parameters. -/
def carriedBy (c : Instr) : List Octet :=
  (match c with
    | .unknownCommand code => [code]
    | _ => (commandCode c).toList) ++ parameterOctets c

/-- A two-octet field at position `n` of a parameter run, low octet first (R169). -/
def halfAt (params : List Octet) (n : Nat) : Half :=
  BitVec.ofNat 16 (octetsValue [octetAt params n, octetAt params (n + 1)])

/-- R171: a count field, 0 where it is out of its range, so that no octets follow it. -/
def countedOctets (limit count : Nat) : Nat := if 1 ≤ count ∧ count ≤ limit then count else 0

/-- R171, Table 11-2: how many parameter octets a command code takes, as far as the parameters held tell;
`none` while the count field of a MEM_WRITE or LIST_WRITE has not come. A code that Table 11-2 does not
define takes none. -/
def parameterCount (code : Octet) (params : List Octet) : Option Nat :=
  match code.toNat with
  | 0x02 => some 50
  | 0x10 =>
    if params.length < 4 then none else some (4 + countedOctets maxPayload (halfAt params 3).toNat)
  | 0x11 => some 4
  | 0x20 => some 13
  | 0x21 | 0x22 => some 1
  | 0x23 => if params.length < 2 then none else some (2 + countedOctets 8 (octetAt params 2).toNat)
  | 0x30 => some 2
  | 0x31 | 0x32 | 0x33 => some 1
  | 0x40 => some 5
  | 0x41 | 0x42 | 0x48 => some 1
  | 0x58 => some 1
  | 0x61 | 0x62 => some 3
  | _ => some 0

/-- R171, R172: the octets are a whole command: its code, and all its parameter octets. -/
def commandComplete : List Octet → Bool
  | [] => false
  | code :: params => parameterCount code params == some params.length

/-- R170, R171: octets clocked in after those held, up to the one that completes the command, and those
that come after it; `none` where none completes it. -/
def splitCommand (held : List Octet) : List Octet → Option (List Octet × List Octet)
  | [] => none
  | o :: rest =>
    if commandComplete (held ++ [o]) then some (held ++ [o], rest) else splitCommand (held ++ [o]) rest

/-- Tables 11-2 and 11-3: the command that a whole run of octets is. A RESTART carries no parameters; what
it samples is given with it. -/
def commandOf (address : Station) (rate : Fin 4) (line : LineLevel) : List Octet → Instr
  | [] => .unknownCommand 0
  | code :: p =>
    match code.toNat with
    | 0x01 => .ident
    | 0x02 => .configure p
    | 0x03 => .restart address rate line
    | 0x04 => .leave
    | 0x05 => .join
    | 0x10 => .memWrite (halfAt p 1) (halfAt p 3) (p.drop 4)
    | 0x11 => .memRead (halfAt p 1) (halfAt p 3)
    | 0x20 =>
      .descWrite (octetAt p 1) (octetAt p 2) (octetAt p 3) (octetAt p 4) (halfAt p 5) (halfAt p 7)
        (BitVec.ofNat 32 (octetsValue [octetAt p 9, octetAt p 10, octetAt p 11, octetAt p 12]))
        (octetAt p 13)
    | 0x21 => .descRead (octetAt p 1)
    | 0x22 => .descDisarm (octetAt p 1)
    | 0x23 => .listWrite (octetAt p 1) (octetAt p 2) (p.drop 2)
    | 0x30 => .queueStart (octetAt p 1) (octetAt p 2)
    | 0x31 => .queueResume (octetAt p 1)
    | 0x32 => .queueStop (octetAt p 1)
    | 0x33 => .queueRead (octetAt p 1)
    | 0x40 => .inboxPost (octetAt p 1) (halfAt p 2) (halfAt p 4)
    | 0x41 => .inboxTake (octetAt p 1)
    | 0x42 => .inboxRead (octetAt p 1)
    | 0x48 => .noticeTake (octetAt p 1)
    | 0x50 => .logTake
    | 0x58 => .peerRead (octetAt p 1)
    | 0x60 => .eventsRead
    | 0x61 => .eventsClear (BitVec.ofNat 24 (octetsValue [octetAt p 1, octetAt p 2, octetAt p 3]))
    | 0x62 => .maskWrite (BitVec.ofNat 24 (octetsValue [octetAt p 1, octetAt p 2, octetAt p 3]))
    | 0x68 => .countersTake
    | _ => .unknownCommand code

/-- R180: an index field, `none` beyond its range. -/
def indexField (n : Nat) (o : Octet) : Option (Fin n) :=
  if h : o.toNat < n then some ⟨o.toNat, h⟩ else none

/-- Table 11-3: a descriptor kind; 3 is not defined (R180). -/
def kindField (kindByte : Octet) : Option DescKind :=
  match bitsOf kindByte 0 2 with
  | 0 => some .message
  | 1 => some .broadcast
  | 2 => some .notice
  | _ => none

/-- Table 11-3: a descriptor destination; type 3 is not defined, and octet 3 is not examined for ALL. -/
def destinationField (kindByte destByte : Octet) : Option Destination :=
  match bitsOf kindByte 2 2 with
  | 0 => (indexField 32 destByte).map .station
  | 1 => (indexField 16 destByte).map .list
  | 2 => some .all
  | _ => none

/-- Table 11-3: a link, 0..127 or 0xFF for END; 128..254 are not defined (R180). -/
def linkField (link : Octet) : Option (Option DescIx) :=
  if link = 0xFF then some none else (indexField 128 link).map some

/-- R59, R180: a descriptor's buffer address, `none` above 32767. -/
def addressField (address : Half) : Option MemAddr :=
  if h : address.toNat < 32768 then some ⟨address.toNat, h⟩ else none

/-- R57, Table 11-3: the host fields DESC_WRITE carries, `none` where R59 refuses one. -/
def hostFieldsOf (kindByte destByte channelByte : Octet) (address length : Half) (value : Value)
    (link : Octet) : Option HostFields := do
  let kind ← kindField kindByte
  let destination ← destinationField kindByte destByte
  let address ← addressField address
  let link ← linkField link
  return { kind, destination, inbox := Fin.ofNat 8 (bitsOf channelByte 0 3),
           word := Fin.ofNat 4 (bitsOf channelByte 4 2), address,
           length := Fin.ofNat 1024 length.toNat, value, link, notify := bitOf kindByte 4 }

/-- Table 11-3: the arm flag of DESC_WRITE. -/
def armFlag (kindByte : Octet) : Bool := bitOf kindByte 5

/-- Table 11-3: the access of a notice word; code 3, and a RESTRICTED station beyond 31, are refused
(R175). -/
def accessField (o : Octet) : Option Access :=
  match bitsOf o 0 2 with
  | 0 => some .closed
  | 1 => some .opened
  | 2 => if h : bitsOf o 2 6 < 32 then some (.restricted ⟨bitsOf o 2 6, h⟩) else none
  | _ => none

/-- Table 11-3: the setting of queue `q`, from CONFIGURE octet 6. -/
def queueSettingField (params : List Octet) (q : QueueIx) : QueueSetting :=
  { urgent := bitOf (octetAt params 6) (2 * q.val),
    logAll := bitOf (octetAt params 6) (2 * q.val + 1) }

/-- R104: a source set without the station's own address. -/
def withoutStation (set : StationSet) (s : Station) : StationSet :=
  set &&& ~~~(BitVec.twoPow 32 s.val)

/-- Table 11-3: the setting of inbox `i`, from CONFIGURE octets 7 + 5i onward; the own address is left
out of the source set (R104). -/
def inboxSettingField (own : Station) (params : List Octet) (i : InboxIx) : InboxSetting :=
  let flags := octetAt params (7 + 5 * i.val)
  let sources := octetsValue [octetAt params (8 + 5 * i.val), octetAt params (9 + 5 * i.val),
    octetAt params (10 + 5 * i.val), octetAt params (11 + 5 * i.val)]
  { enabled := bitOf flags 0, broadcast := bitOf flags 1,
    sources := withoutStation (BitVec.ofNat 32 sources) own }

/-- R175: the settings CONFIGURE's 50 parameter octets give, `none` where they are refused. -/
def settingsOf (own : Station) (params : List Octet) : Option Settings := do
  let presence ← indexField 6 (octetAt params 2)
  let retry ← indexField 8 (octetAt params 3)
  let patience ← indexField 16 (octetAt params 5)
  let a0 ← accessField (octetAt params 47)
  let a1 ← accessField (octetAt params 48)
  let a2 ← accessField (octetAt params 49)
  let a3 ← accessField (octetAt params 50)
  if octetAt params 4 = 0 then none
  else return { epoch := BitVec.ofNat 4 (bitsOf (octetAt params 1) 0 4), presence,
                retryLimit := retry.val, holdLimit := (octetAt params 4).toNat,
                patience := patience.val, queues := Vector.ofFn (queueSettingField params),
                inboxes := Vector.ofFn (inboxSettingField own params),
                access := #v[a0, a1, a2, a3] }

/-- R61: the stations LIST_WRITE carries, `none` where it refuses them: not 1..8 stations, one beyond
31, one named twice, or the own address. -/
def stationsField (own : Station) (count : Octet) (stations : List Octet) : Option (List Station) :=
  if 1 ≤ count.toNat ∧ count.toNat ≤ 8 then
    match (stations.take count.toNat).mapM (indexField 32) with
    | some l => if l.Nodup ∧ own ∉ l then some l else none
    | none => none
  else none

/-- R179: the address and count of a packet memory transfer, `none` where it is refused. -/
def transferField (address count : Half) : Option (Nat × Nat) :=
  if 1 ≤ count.toNat ∧ count.toNat ≤ maxPayload ∧ address.toNat + count.toNat ≤ memorySize then
    some (address.toNat, count.toNat)
  else none

end Sys2Proof.Machine
end

