-- ==== Sys2Proof/Machine/HostPort.lean ====
section
/-!
DEFINITION. The host port (chapter 11): the transaction state, the taking of a command with its status
(R170 to R174), and the edges of SEL.
-/

namespace Sys2Proof.Machine

/-- The status codes (Table 11-1). -/
inductive Status where
  | done | empty | refusedState | refusedArg | refusedOwned | refusedFull
  | unconfigured | locked | unknownCommand
deriving DecidableEq, Repr

/-- Table 11-1: the code of a status. -/
def Status.code : Status → Octet
  | .done => 0x00
  | .empty => 0x01
  | .refusedState => 0x02
  | .refusedArg => 0x03
  | .refusedOwned => 0x04
  | .refusedFull => 0x05
  | .unconfigured => 0x06
  | .locked => 0x07
  | .unknownCommand => 0x08

/-- What a command does when it is taken: the state after its effects, its status, and the response data
of a DONE. -/
structure Answer where
  state  : State
  status : Status
  data   : List Octet

/-- A command refused, or answered EMPTY: nothing changes. -/
def State.refuse (s : State) (status : Status) : Answer := { state := s, status, data := [] }

/-- A command answered DONE with no response data. -/
def State.done (s : State) : Answer := { state := s, status := .done, data := [] }

/-- R170, R174: the response begins: the status octet, then the response data of a DONE. -/
def Answer.respond (a : Answer) : State :=
  a.state.setPort { a.state.port with
    state := .response, held := [],
    response := a.status.code :: (if a.status = .done then a.data else []) }

/-- R170, R172: octets of a command that is not complete are held. -/
def State.holdOctets (s : State) (octets : List Octet) : State :=
  s.setPort { s.port with held := s.port.held ++ octets }

/-- R170: at each octet that completes in RESPONSE the next response octet is placed on SDO, or 0x00 when
none is left. -/
def State.shiftOut (s : State) (octets : Nat) : State :=
  s.setPort { s.port with response := s.port.response.drop octets }

/-- What a RESTART samples: the straps and the trunk line. The command that carries none of it, an undefined
code given as 0x03, finds the straps as they were and the line as the line state tells (log entry 11). -/
def State.sampled (s : State) : Instr → Straps × LineLevel
  | .restart address rate line => ({ address, rate }, line)
  | _ => (s.straps, if s.trunk.line = .idle then .mark else .space)

/-- R170 to R172: in COMMAND, the command that the octets of `c` complete together with those held, and the
octets of `c` that come after it. -/
def State.taken (s : State) (c : Instr) : Option (Instr × List Octet) :=
  match s.port.state with
  | .idle | .response => none
  | .command =>
    (splitCommand s.port.held (carriedBy c)).map fun (octets, rest) =>
      (commandOf (s.sampled c).1.address (s.sampled c).1.rate (s.sampled c).2 octets, rest)

/-- R170 to R172: the octets of host command `c` are clocked in one after another. In COMMAND each is held;
the one that completes a command has it taken at that instant, `answer` giving its effects and status, and
those after it are ignored. In RESPONSE all are ignored, and the response is shifted out as they come. In
IDLE SEL is high, or has not fallen since a hard reset, and SCK is ignored (R169). -/
def State.clockOctets (s : State) (c : Instr) (answer : Instr → State → Answer) : State :=
  match s.taken c with
  | some (command, rest) => (answer command s).respond.shiftOut rest.length
  | none =>
    match s.port.state with
    | .idle => s
    | .command => s.holdOctets (carriedBy c)
    | .response => s.shiftOut (carriedBy c).length

/-! ### The serial pins (R169) -/

/-- R169: the eight bits in which an octet is shifted, in either direction, most significant bit first. -/
def shiftedBits (o : Octet) : List Bool := [7, 6, 5, 4, 3, 2, 1, 0].map fun n => bitOf o n

/-- R169: the octet that samples of SDI complete, the first being its most significant bit. -/
def octetOfShifted (samples : List Bool) : Octet :=
  samples.foldl (fun o b => o <<< 1 ||| octet (bit b)) 0

/-- R169, R170: the octet that the part shifts out next: the first of the response octets left, and 0x00
where none is due. -/
def HostPort.nextOctet (p : HostPort) : Octet :=
  match p.state with
  | .response => p.response.headD 0x00
  | .idle | .command => 0x00

/-- R169: SDO at cycle `n` of an octet, `none` standing for high impedance: it is driven only while SEL is
low. It follows SEL alone also while RST is held low, where the port is IDLE and 0x00 is due (log entry 12). -/
def HostPort.sdo (p : HostPort) (n : Nat) : Option Bool :=
  match p.sel with
  | .high => none
  | .low => (shiftedBits p.nextOctet)[n]?

/-! ### The edges of SEL (R170, R172) -/

/-- SEL_FALL (R170): SEL falls from high to low and the port goes from IDLE to COMMAND with no octets
held. Where SEL is low already there is no fall; while RST is held low SEL is ignored. -/
def execSelFall (s : State) : Host.Outcome State Fault Refusal :=
  match s.port.sel, s.port.state, s.rst with
  | .high, .idle, .high => .next (s.setPort { state := .command, held := [], response := [], sel := .low })
  | .high, _, _ => .next (s.setPort { s.port with sel := .low })
  | .low, _, _ => .next s

/-- SEL_RISE (R170, R172): a command not taken is discarded, or the response octets not yet shifted out
are dropped; the port is IDLE. -/
def execSelRise (s : State) : Host.Outcome State Fault Refusal :=
  .next (s.setPort { state := .idle, held := [], response := [], sel := .high })

end Sys2Proof.Machine
end

