-- ==== Sys2Proof/Machine/SendCommands.lean ====
section
/-!
DEFINITION. The answers of the host commands on descriptors, fan-out lists, send queues and the completion log
(R59 to R61, R65, R66, R73 to R76, R148, R149).
-/

namespace Sys2Proof.Machine

/-- A station, queue or index octet, 0xFF for none (section 11.7). -/
def finOr {n : Nat} (v : Option (Fin n)) : Octet := octetOr (v.map (·.val))

/-- Section 11.7: the outcome octet. -/
def Outcome.code : Outcome → Nat
  | .delivered => 1
  | .noReply => 2
  | .refusedFull => 3
  | .tooLong => 4
  | .closed => 5
  | .peerSilent => 6
  | .stopped => 7
  | .notTried => 8
  | .partDelivered => 9
  | .undelivered => 10
  | .sent => 11
  | .taken => 12
  | .overwrote => 13
  | .malformed => 14

/-- Section 11.7: an outcome octet, 0 for absent. -/
def outcomeOctet (o : Option Outcome) : Octet := octet ((o.map Outcome.code).getD 0)

/-- Octets followed by zeros up to a length. -/
def padded (n : Nat) (l : List Octet) : List Octet := (l ++ List.replicate n 0).take n

/-- Table 11-4: a per-destination list, its length and 8 entries of station and outcome. -/
def perDestOctets (l : Option (List (Station × Outcome))) : List Octet :=
  let entries := l.getD []
  octet entries.length ::
    padded 16 (entries.flatMap fun (s, o) => [octet s.val, octet o.code])

/-! ### Descriptors (R59, R60) -/

/-- R59: DESC_WRITE writes the host fields of a disarmed descriptor and clears its part fields (R58). -/
def State.descWriteAnswer (s : State) (index kindByte destByte channelByte : Octet)
    (address length : Half) (value : Value) (link : Octet) : Answer :=
  match indexField 128 index,
      hostFieldsOf kindByte destByte channelByte address length value link with
  | some d, some h =>
    if (s.desc d).armed then s.refuse .refusedOwned
    else
      (s.setDesc d { host := h, armed := armFlag kindByte, holder := none, outcome := none,
                     attempts := 0, late := 0, perDest := none }).done
  | _, _ => s.refuse .refusedArg

/-- Table 11-3: the kind code. -/
def DescKind.code : DescKind → Nat
  | .message => 0
  | .broadcast => 1
  | .notice => 2

/-- Table 11-3: destination type and octet 3, which reads 0 for ALL. -/
def Destination.codes : Destination → Nat × Nat
  | .station s => (0, s.val)
  | .list n => (1, n.val)
  | .all => (2, 0)

/-- Table 11-4: the host fields as in DESC_WRITE octets 2..13, octet 2 bit 5 being armed. -/
def Descriptor.hostOctets (d : Descriptor) : List Octet :=
  let h := d.host
  [octet (h.kind.code + 4 * h.destination.codes.1 + 16 * bit h.notify + 32 * bit d.armed),
    octet h.destination.codes.2, octet (h.inbox.val + 16 * h.word.val)] ++
  octetsOf 2 h.address.val ++ octetsOf 2 h.length.val ++ octetsOf 4 h.value.toNat ++ [finOr h.link]

/-- R60, Table 11-4: the response of DESC_READ. -/
def State.descData (s : State) (d : DescIx) : List Octet :=
  let x := s.desc d
  octet d.val :: x.hostOctets ++
    [finOr x.holder, outcomeOctet x.outcome, octet x.attempts, octet x.late] ++
    perDestOctets x.perDest

/-- R60: DESC_READ changes nothing. -/
def State.descReadAnswer (s : State) (index : Octet) : Answer :=
  match indexField 128 index with
  | some d => { state := s, status := .done, data := s.descData d }
  | none => s.refuse .refusedArg

/-- R60: a queue is WAITING at a descriptor. -/
def State.waitedAt (s : State) (d : DescIx) : Bool :=
  (List.finRange 4).any fun q => s.queue q == .waitingAt d

/-- R60: DESC_DISARM hands an armed descriptor back unsent. -/
def State.descDisarmAnswer (s : State) (index : Octet) : Answer :=
  match indexField 128 index with
  | none => s.refuse .refusedArg
  | some d =>
    if !(s.desc d).armed then s.refuse .refusedState
    else if (s.desc d).holder.isSome || s.waitedAt d then s.refuse .refusedOwned
    else (s.setDesc d { s.desc d with armed := false }).done

/-- R61: LIST_WRITE replaces a fan-out list whole. -/
def State.listWriteAnswer (s : State) (list count : Octet) (stations : List Octet) : Answer :=
  match indexField 16 list, stationsField s.own count stations with
  | some n, some l => (s.setFanout n l).done
  | _, _ => s.refuse .refusedArg

/-! ### Queues (R65, R66, R73, R76) -/

/-- R65: a STOPPED queue arrives at the descriptor. -/
def State.queueStartAnswer (s : State) (queue index : Octet) : Answer :=
  match indexField 4 queue, indexField 128 index with
  | some q, some d =>
    if s.queue q = .stopped then (s.arrive q d arrivalFuel).done else s.refuse .refusedState
  | _, _ => s.refuse .refusedArg

/-- R66: a WAITING queue acts on its position. -/
def State.queueResumeAnswer (s : State) (queue : Octet) : Answer :=
  match indexField 4 queue with
  | none => s.refuse .refusedArg
  | some q =>
    match s.queue q with
    | .waitingAt d => (s.arrive q d arrivalFuel).done
    | .waitingAfter d => (s.followLink q d).done
    | .stopped | .running _ | .held _ | .blockedLog _ | .stopping _ => s.refuse .refusedState

/-- R73: QUEUE_STOP is answered DONE in every state. -/
def State.queueStopAnswer (s : State) (queue : Octet) : Answer :=
  match indexField 4 queue with
  | some q => (s.stopQueue q).done
  | none => s.refuse .refusedArg

/-- Table 11-4: state code, position code and position index. -/
def QueueState.codes : QueueState → Nat × Nat × Option DescIx
  | .stopped => (0, 0, none)
  | .waitingAt d => (1, 1, some d)
  | .waitingAfter d => (1, 2, some d)
  | .running c => (2, 3, some c.head)
  | .held c => (3, 3, some c.head)
  | .blockedLog c => (4, 3, some c.head)
  | .stopping c => (5, 3, some c.head)

/-- Table 11-4: the station of the current destination, 63 for ALL, 0xFF where there is none. -/
def Context.stationOctet (c : Context) : Octet :=
  match c.destinations with
  | .all => octet allStations
  | .one _ | .list _ => finOr c.station

/-- Table 11-4: the number of destinations; for an empty copied list no rule gives the octet, and it is
free (log entry 15). -/
def Context.countOctet (c : Context) : Octet :=
  if c.destCount = 0 then Config.emptyCopyDestinations else octet c.destCount

/-- R76, Table 11-4: the octets 5..19 of a queue with a head, and of one without. -/
def QueueState.contextOctets (st : QueueState) : List Octet :=
  match st.context with
  | some c =>
    [octet c.current, c.stationOctet, octet c.stepAttempts, octet c.fullCount, octet c.attempts,
      octet c.late, c.countOctet] ++ padded 8 (c.outcomes.map fun o => octet o.code)
  | none => [0, 0xFF, 0, 0, 0, 0, 0] ++ padded 8 []

/-- Table 11-4: whether the queue's hold timer is running. -/
def QueueState.holdRunning (st : QueueState) : Bool :=
  match st.context with
  | some c => c.hold.isSome
  | none => false

/-- R76, Table 11-4: the response of QUEUE_READ. -/
def State.queueData (s : State) (q : QueueIx) : List Octet :=
  let st := s.queue q
  let set := s.queueSetting q
  [octet st.codes.1, octet st.codes.2.1, finOr st.codes.2.2,
    octet (bit set.urgent + 2 * bit set.logAll + 4 * bit st.holdRunning +
      8 * bit (st.context.isSome && s.frameOnTrunk q))] ++ st.contextOctets

/-- R76: QUEUE_READ changes nothing. -/
def State.queueReadAnswer (s : State) (queue : Octet) : Answer :=
  match indexField 4 queue with
  | some q => { state := s, status := .done, data := s.queueData q }
  | none => s.refuse .refusedArg

/-! ### The completion log (R148, R149) -/

/-- R149: the log arbiter serves one waiting queue: its deferred hand-off is made, and a BLOCKED_LOG
queue follows its link. -/
def State.serveQueue (s : State) (q : QueueIx) : State :=
  match s.queue q with
  | .blockedLog c => ((s.writeBack c).appendRecord (c.completion q)).followLink q c.head
  | .stopping c =>
    if c.outcome.isSome then
      ((s.writeBack c).appendRecord (c.completion q)).setQueue q .stopped
    else s
  | .stopped | .waitingAt _ | .waitingAfter _ | .running _ | .held _ => s

/-- R149: the waiting queue with the lowest number. -/
def State.firstWaiting (s : State) : Option QueueIx :=
  (List.finRange 4).find? fun q => (s.queue q).waitsForRoom

/-- R149: room in the log is handed to a waiting queue. -/
def State.serveLog (s : State) : State :=
  match s.firstWaiting with
  | some q => s.serveQueue q
  | none => s

/-- Table 11-4: a completion record in the response of LOG_TAKE. -/
def CompletionRecord.octets (r : CompletionRecord) : List Octet :=
  [octet r.queue.val, octet r.descriptor.val, octet r.outcome.code, octet r.attempts, octet r.late] ++
    perDestOctets r.perDest

/-- R148: the oldest record is removed and returned with the count left, taken before the service of
R149. -/
def State.logTakeAnswer (s : State) : Answer :=
  match s.log with
  | [] => s.refuse .empty
  | r :: rest =>
    { state := (s.setLog rest).serveLog, status := .done, data := octet rest.length :: r.octets }

end Sys2Proof.Machine
end

