-- ==== Sys2Proof/Machine/ReceiveCommands.lean ====
section
/-!
DEFINITION. The answers of the host commands on inboxes, notice words, the peer table, the event flags and the
diagnostic counters (R54, R105, R107, R119, R141, R153, R154, R168).
-/

namespace Sys2Proof.Machine

/-! ### Inboxes -/

/-- R105: the checks of INBOX_POST in their order. -/
def State.inboxPostAnswer (s : State) (inbox : Octet) (address capacity : Half) : Answer :=
  match indexField 8 inbox, addressField address with
  | some i, some a =>
    if 1 ≤ capacity.toNat ∧ capacity.toNat ≤ maxPayload ∧
        address.toNat + capacity.toNat ≤ memorySize then
      if !(s.inboxSetting i).enabled then s.refuse .refusedState
      else if freeLimit ≤ (s.inbox i).free.length then s.refuse .refusedFull
      else
        (s.setInbox i ((s.inbox i).post { address := a, capacity := capacity.toNat })).done
    else s.refuse .refusedArg
  | _, _ => s.refuse .refusedArg

/-- Table 11-4: the kind code of an arrival. -/
def ArrivalKind.code : ArrivalKind → Nat
  | .data => 1
  | .bcast => 2

/-- R107, Table 11-4: the response of INBOX_TAKE. -/
def Arrival.octets (a : Arrival) : List Octet :=
  [octet a.source.val, octet a.kind.code] ++ octetsOf 2 a.length ++ octetsOf 2 a.buffer.address.val ++
    octetsOf 2 a.buffer.capacity ++ [finOr a.seq]

/-- R107: the oldest arrival record is removed and returned. -/
def State.inboxTakeAnswer (s : State) (inbox : Octet) : Answer :=
  match indexField 8 inbox with
  | none => s.refuse .refusedArg
  | some i =>
    match (s.inbox i).arrivals with
    | [] => s.refuse .empty
    | a :: _ => { state := s.setInbox i (s.inbox i).take, status := .done, data := a.octets }

/-- R119, Table 11-4: the response of INBOX_READ. -/
def State.inboxData (s : State) (i : InboxIx) : List Octet :=
  let x := s.inbox i
  let set := s.inboxSetting i
  let head := match x.free with
    | b :: _ => octetsOf 2 b.address.val ++ octetsOf 2 b.capacity
    | [] => octetsOf 4 0
  [octet (bit set.enabled + 2 * bit set.broadcast + 4 * bit x.announce)] ++
    octetsOf 4 set.sources.toNat ++ [octet x.free.length] ++ head ++
    [octet x.arrivals.length, octet x.offered] ++ octetsOf 4 x.waiters.toNat ++ octetsOf 2 x.drops

/-- R119: INBOX_READ reports the inbox and takes its broadcast drop count. -/
def State.inboxReadAnswer (s : State) (inbox : Octet) : Answer :=
  match indexField 8 inbox with
  | some i =>
    { state := s.setInbox i { s.inbox i with drops := 0 }, status := .done, data := s.inboxData i }
  | none => s.refuse .refusedArg

/-! ### Notice words -/

/-- R141, Table 11-4: the response of NOTICE_TAKE. -/
def NoticeWord.octets (x : NoticeWord) : List Octet :=
  octetsOf 4 x.value.toNat ++ [finOr x.writer, octet (bit x.unread)]

/-- R141: NOTICE_TAKE reports the word and then clears its unread flag. -/
def State.noticeTakeAnswer (s : State) (word : Octet) : Answer :=
  match indexField 4 word with
  | some w =>
    { state := s.setWord w { s.word w with unread := false }, status := .done,
      data := (s.word w).octets }
  | none => s.refuse .refusedArg

/-! ### The peer table -/

/-- Table 11-4: the state code of a peer entry. -/
def PeerState.code : PeerState → Nat
  | .unknown => 0
  | .present => 1
  | .silent => 2
  | .self => 3

/-- Table 11-4: a send pair record in the response of PEER_READ. -/
def SendPair.octets (r : SendPair) : List Octet := [octet (r.anchor.val + 16 * r.blind), finOr r.lock]

/-- R54, Table 11-4: the response of PEER_READ. -/
def PeerEntry.octets (e : PeerEntry) : List Octet :=
  [octet e.state.code, octetOr (e.epoch.map (·.toNat))] ++
    (List.finRange 8).flatMap (fun i => (e.send[i]).octets) ++
    (List.finRange 8).map (fun i => finOr e.hints[i]) ++
    (List.finRange 8).map (fun i => finOr e.receive[i])

/-- R54: PEER_READ changes nothing. -/
def State.peerReadAnswer (s : State) (station : Octet) : Answer :=
  match indexField 32 station with
  | some p => { state := s, status := .done, data := (s.peer p).octets }
  | none => s.refuse .refusedArg

/-! ### Events and counters -/

/-- R153, Table 11-4: the response of EVENTS_READ. -/
def State.eventsData (s : State) : List Octet :=
  octetsOf 3 s.flagWord.toNat ++ octetsOf 3 s.attention.mask.toNat ++ [octet (bit s.attn)]

/-- R153: EVENTS_READ changes nothing. -/
def State.eventsReadAnswer (s : State) : Answer := { state := s, status := .done, data := s.eventsData }

/-- R153: the selected latched events are cleared, conditions are left. -/
def State.eventsClearAnswer (s : State) (selection : BitVec 24) : Answer :=
  (s.setAttention (s.attention.clear selection)).done

/-- R154: the whole mask is replaced; bits 23..21 are not examined. -/
def State.maskWriteAnswer (s : State) (enables : BitVec 24) : Answer :=
  (s.setAttention { s.attention with mask := enables.setWidth 21 }).done

/-- R168, Table 11-4: the response of COUNTERS_TAKE. -/
def Counters.octets (c : Counters) : List Octet :=
  octetsOf 2 c.invalid ++ octetsOf 2 c.collisions ++ octetsOf 2 c.noReply ++ octetsOf 2 c.drops

/-- R168: the four counters are reported and set to 0. -/
def State.countersTakeAnswer (s : State) : Answer :=
  { state := s.setCounters Counters.initial, status := .done, data := s.counters.octets }

end Sys2Proof.Machine
end

