-- ==== Sys2Proof/Machine/Resets.lean ====
section
/-!
DEFINITION. HARD_RESET and the soft reset of RESTART (R4, R19, R38, R55, R77, R120, R144, R156, R168,
R170, R178): what each block holds afterwards.
-/

namespace Sys2Proof.Machine

/-- R4, R15, R17: the trunk interface after either reset follows the line; an activity found in progress
was not seen from its beginning. -/
def trunkAfterReset (line : LineLevel) : TrunkInterface :=
  match line with
  | .mark => TrunkInterface.initial
  | .space => { TrunkInterface.initial with line := .activeRx, unseenStart := true }

/-- R77: a descriptor after a soft reset: disarmed, with no holder, its other fields kept. -/
def Descriptor.softReset (d : Descriptor) : Descriptor := { d with armed := false, holder := none }

/-- What both resets leave alike: everything but packet memory, the descriptor store, the host port's own
transaction and the level of RST, which are as in `s`. -/
def State.afterReset (s : State) (straps : Straps) (line : LineLevel) : State :=
  { straps, rst := s.rst, trunk := trunkAfterReset line, claim := ClaimUnit.initial,
    peers := PeerTable.initial straps.address, store := s.store,
    queues := Vector.replicate 4 .stopped, inboxes := Vector.replicate 8 Inbox.initial,
    words := Vector.replicate 4 NoticeWord.initial, log := [], attention := Attention.initial,
    counters := Counters.initial, memory := s.memory, port := s.port, settings := none,
    pending := s.pending }

/-- R178: the soft reset. -/
def State.softReset (s : State) (straps : Straps) (line : LineLevel) : State :=
  (s.afterReset straps line).setStore
    { s.store with descriptors := mapTable (fun _ d => d.softReset) s.store.descriptors }

/-- R19, R77, R155, R170: the hard reset, RST then standing as given. While RST is held low the part holds
the values of the reset, which its end then sets from the pins (log entry 21). -/
def State.hardReset (s : State) (straps : Straps) (line : LineLevel) (sel rst : PinLevel) : State :=
  ((((s.afterReset straps line).setStore DescriptorStore.initial).setMemory { cells := [] }).setPort
    (HostPort.initial sel)).setRst rst

/-- HARD_RESET (R19). -/
def execHardReset (address : Station) (rate : Fin 4) (line : LineLevel) (sel : PinLevel) (s : State)
    (rst : PinLevel := .high) :
    Host.Outcome State Fault Refusal :=
  .next (s.hardReset { address, rate } line sel rst)

end Sys2Proof.Machine
end

