-- ==== Sys2Proof/Machine/StationCommands.lean ====
section
/-!
DEFINITION. The answers of the host commands on the station: IDENT, CONFIGURE, RESTART, LEAVE and JOIN (R33,
R34, R175 to R178), and packet memory (R179).
-/

namespace Sys2Proof.Machine

/-- Table 11-4: the trunk state code of IDENT. -/
def TrunkState.code : TrunkState → Nat
  | .unconfigured => 0
  | .listening => 1
  | .active => 2
  | .quiet => 3
  | .offline => 4

/-- R177, Table 11-4. -/
def State.identData (s : State) : List Octet :=
  octetsOf 2 partCode.toNat ++
    [revisionCode, octet s.own.val, octet s.straps.rate.val, octet s.claim.state.code]

/-- R177: IDENT changes nothing. -/
def State.identAnswer (s : State) : Answer := { state := s, status := .done, data := s.identData }

/-- R176: what taking CONFIGURE does. -/
def State.configure (s : State) (c : Settings) : State :=
  let s := s.setSettings (some c)
  let s := (s.setClaim { s.claim with freshStartOwed := true }).enterListening
  let s := s.setPeer s.own { s.peer s.own with epoch := some c.epoch }
  s.setPeers { s.peers with presenceTimer := some 0 }

/-- R174 to R176: CONFIGURE is taken once per reset, with parameters in range. -/
def State.configureAnswer (s : State) (params : List Octet) : Answer :=
  if s.configured then s.refuse .locked
  else
    match settingsOf s.own params with
    | some c => (s.configure c).done
    | none => s.refuse .refusedArg

/-- R178: the soft reset; the transaction that carried it stays in RESPONSE with its DONE. -/
def State.restartAnswer (s : State) (address : Station) (rate : Fin 4) (line : LineLevel) : Answer :=
  (s.softReset { address, rate } line).done

/-- R33: LEAVE moves the station to OFFLINE, deferred while it is driving its own transmission. -/
def State.leaveAnswer (s : State) : Answer :=
  if s.claim.state.onTrunk then
    (if s.trunk.line = .activeTx then s.setClaim { s.claim with leaveDeferred := true }
      else s.enterOffline).done
  else s.refuse .refusedState

/-- R34: JOIN moves an OFFLINE station to LISTENING. -/
def State.joinAnswer (s : State) : Answer :=
  if s.claim.state = .offline then s.enterListening.done else s.refuse .refusedState

/-- R179: the octets are written all at the instant the command is taken. -/
def State.memWriteAnswer (s : State) (address count : Half) (data : List Octet) : Answer :=
  match transferField address count with
  | some (a, n) => (s.setMemory (s.memory.writeOctets a (data.take n))).done
  | none => s.refuse .refusedArg

/-- R179: the octets as they stood when the command was taken. -/
def State.memReadAnswer (s : State) (address count : Half) : Answer :=
  match transferField address count with
  | some (a, n) => { state := s, status := .done, data := s.memory.readOctets a n }
  | none => s.refuse .refusedArg

end Sys2Proof.Machine
end

