-- ==== Sys2Proof/Machine/Commands.lean ====
section
/-!
DEFINITION. The host commands as the port takes them (R170 to R174): the status and the effects of the command
taken, and the meaning of each host command, its octets being clocked in.
-/

namespace Sys2Proof.Machine

/-- R174, item 4: the status that the command's owning rule gives, with its effects. An event is no command
that the port can take. -/
def State.perform (s : State) : Instr → Answer
  | .ident => s.identAnswer
  | .configure params => s.configureAnswer params
  | .restart address rate line => s.restartAnswer address rate line
  | .leave => s.leaveAnswer
  | .join => s.joinAnswer
  | .memWrite address count data => s.memWriteAnswer address count data
  | .memRead address count => s.memReadAnswer address count
  | .descWrite index kindByte destByte channelByte address length value link =>
    s.descWriteAnswer index kindByte destByte channelByte address length value link
  | .descRead index => s.descReadAnswer index
  | .descDisarm index => s.descDisarmAnswer index
  | .listWrite list count stations => s.listWriteAnswer list count stations
  | .queueStart queue index => s.queueStartAnswer queue index
  | .queueResume queue => s.queueResumeAnswer queue
  | .queueStop queue => s.queueStopAnswer queue
  | .queueRead queue => s.queueReadAnswer queue
  | .inboxPost inbox address capacity => s.inboxPostAnswer inbox address capacity
  | .inboxTake inbox => s.inboxTakeAnswer inbox
  | .inboxRead inbox => s.inboxReadAnswer inbox
  | .noticeTake word => s.noticeTakeAnswer word
  | .logTake => s.logTakeAnswer
  | .peerRead station => s.peerReadAnswer station
  | .eventsRead => s.eventsReadAnswer
  | .eventsClear selection => s.eventsClearAnswer selection
  | .maskWrite enables => s.maskWriteAnswer enables
  | .countersTake => s.countersTakeAnswer
  | .unknownCommand _ => s.refuse .unknownCommand
  | .hardReset .. | .activityStart | .transmitMismatch | .transmissionComplete | .validFrameEnd ..
  | .invalidActivityEnd .. | .lineFoundStuck .. | .returnToIdle | .slotBegin .. | .replyStart
  | .replyWatchTimeout | .joinQuiet | .quietTimerExpiry | .silenceTimerExpiry .. | .presenceTimerExpiry
  | .holdTimerExpiry .. | .selFall | .selRise => s.refuse .unknownCommand

/-- R174, items 1 and 2: IDENT, RESTART, CONFIGURE and an undefined code have their status in every state. -/
def anyTime : Instr → Bool
  | .ident | .configure .. | .restart .. | .unknownCommand .. => true
  | .leave | .join | .memWrite .. | .memRead .. | .descWrite .. | .descRead .. | .descDisarm ..
  | .listWrite .. | .queueStart .. | .queueResume .. | .queueStop .. | .queueRead .. | .inboxPost ..
  | .inboxTake .. | .inboxRead .. | .noticeTake .. | .logTake | .peerRead .. | .eventsRead
  | .eventsClear .. | .maskWrite .. | .countersTake
  | .hardReset .. | .activityStart | .transmitMismatch | .transmissionComplete | .validFrameEnd ..
  | .invalidActivityEnd .. | .lineFoundStuck .. | .returnToIdle | .slotBegin .. | .replyStart
  | .replyWatchTimeout | .joinQuiet | .quietTimerExpiry | .silenceTimerExpiry .. | .presenceTimerExpiry
  | .holdTimerExpiry .. | .selFall | .selRise => false

/-- R174: the answer to a command that is taken. -/
def State.answer (command : Instr) (s : State) : Answer :=
  if anyTime command || s.configured then s.perform command else s.refuse .unconfigured

/-- R170 to R174: the octets of a host command are clocked in. -/
def State.clock (s : State) (c : Instr) : Host.Outcome State Fault Refusal :=
  .next (s.clockOctets c State.answer)

/-- IDENT (R177). -/
def execIdent (s : State) : Host.Outcome State Fault Refusal :=
  s.clock .ident

/-- CONFIGURE (R175, R176). -/
def execConfigure (params : List Octet) (s : State) : Host.Outcome State Fault Refusal :=
  s.clock (.configure params)

/-- RESTART (R178). -/
def execRestart (address : Station) (rate : Fin 4) (line : LineLevel) (s : State) :
    Host.Outcome State Fault Refusal :=
  s.clock (.restart address rate line)

/-- LEAVE (R33). -/
def execLeave (s : State) : Host.Outcome State Fault Refusal :=
  s.clock .leave

/-- JOIN (R34). -/
def execJoin (s : State) : Host.Outcome State Fault Refusal :=
  s.clock .join

/-- MEM_WRITE (R179). -/
def execMemWrite (address count : Half) (data : List Octet) (s : State) :
    Host.Outcome State Fault Refusal :=
  s.clock (.memWrite address count data)

/-- MEM_READ (R179). -/
def execMemRead (address count : Half) (s : State) : Host.Outcome State Fault Refusal :=
  s.clock (.memRead address count)

/-- DESC_WRITE (R59). -/
def execDescWrite (index kindByte destByte channelByte : Octet) (address length : Half) (value : Value)
    (link : Octet) (s : State) : Host.Outcome State Fault Refusal :=
  s.clock (.descWrite index kindByte destByte channelByte address length value link)

/-- DESC_READ (R60). -/
def execDescRead (index : Octet) (s : State) : Host.Outcome State Fault Refusal :=
  s.clock (.descRead index)

/-- DESC_DISARM (R60). -/
def execDescDisarm (index : Octet) (s : State) : Host.Outcome State Fault Refusal :=
  s.clock (.descDisarm index)

/-- LIST_WRITE (R61). -/
def execListWrite (list count : Octet) (stations : List Octet) (s : State) :
    Host.Outcome State Fault Refusal :=
  s.clock (.listWrite list count stations)

/-- QUEUE_START (R65). -/
def execQueueStart (queue index : Octet) (s : State) : Host.Outcome State Fault Refusal :=
  s.clock (.queueStart queue index)

/-- QUEUE_RESUME (R66). -/
def execQueueResume (queue : Octet) (s : State) : Host.Outcome State Fault Refusal :=
  s.clock (.queueResume queue)

/-- QUEUE_STOP (R73 to R75). -/
def execQueueStop (queue : Octet) (s : State) : Host.Outcome State Fault Refusal :=
  s.clock (.queueStop queue)

/-- QUEUE_READ (R76). -/
def execQueueRead (queue : Octet) (s : State) : Host.Outcome State Fault Refusal :=
  s.clock (.queueRead queue)

/-- INBOX_POST (R105). -/
def execInboxPost (inbox : Octet) (address capacity : Half) (s : State) :
    Host.Outcome State Fault Refusal :=
  s.clock (.inboxPost inbox address capacity)

/-- INBOX_TAKE (R107). -/
def execInboxTake (inbox : Octet) (s : State) : Host.Outcome State Fault Refusal :=
  s.clock (.inboxTake inbox)

/-- INBOX_READ (R119). -/
def execInboxRead (inbox : Octet) (s : State) : Host.Outcome State Fault Refusal :=
  s.clock (.inboxRead inbox)

/-- NOTICE_TAKE (R141). -/
def execNoticeTake (word : Octet) (s : State) : Host.Outcome State Fault Refusal :=
  s.clock (.noticeTake word)

/-- LOG_TAKE (R148). -/
def execLogTake (s : State) : Host.Outcome State Fault Refusal :=
  s.clock .logTake

/-- PEER_READ (R54). -/
def execPeerRead (station : Octet) (s : State) : Host.Outcome State Fault Refusal :=
  s.clock (.peerRead station)

/-- EVENTS_READ (R153). -/
def execEventsRead (s : State) : Host.Outcome State Fault Refusal :=
  s.clock .eventsRead

/-- EVENTS_CLEAR (R153). -/
def execEventsClear (selection : BitVec 24) (s : State) : Host.Outcome State Fault Refusal :=
  s.clock (.eventsClear selection)

/-- MASK_WRITE (R154). -/
def execMaskWrite (enables : BitVec 24) (s : State) : Host.Outcome State Fault Refusal :=
  s.clock (.maskWrite enables)

/-- COUNTERS_TAKE (R168). -/
def execCountersTake (s : State) : Host.Outcome State Fault Refusal :=
  s.clock .countersTake

/-- UNKNOWN_COMMAND (R171, R174). -/
def execUnknownCommand (code : Octet) (s : State) : Host.Outcome State Fault Refusal :=
  s.clock (.unknownCommand code)

end Sys2Proof.Machine
end

