-- ==== Sys2Proof/Machine/LineEvents.lean ====
section
/-!
DEFINITION. The events of the trunk line (chapters 1 and 10): the beginning and the end of an activity,
the transmitter's mismatch and completion, the stuck line. An event that the line state excludes changes
nothing (log entries 6 and 7).
-/

namespace Sys2Proof.Machine

/-- ACTIVITY_START (R2): on an IDLE line an activity begins. -/
def execActivityStart (s : State) : Host.Outcome State Fault Refusal := .next s.activityBegins

/-- R16, R33: the station stops driving and follows the rest of the activity. -/
def State.mismatchFound (s : State) (t : Transmission) : State :=
  (s.setTrunk { s.trunk with
    line := .activeRx, transmission := some { t with phase := .mismatched } }).finishLeave

/-- TRANSMIT_MISMATCH (R16), while the station drives the line. -/
def execTransmitMismatch (s : State) : Host.Outcome State Fault Refusal :=
  match s.trunk.line, s.trunk.transmission with
  | .activeTx, some t => .next (if t.phase = .driving then s.mismatchFound t else s)
  | _, _ => .next s

/-- TRANSMISSION_COMPLETE (R15): every octet has gone out and the transmitter releases the line, which
stays ACTIVE_TX until the activity ends. -/
def execTransmissionComplete (s : State) : Host.Outcome State Fault Refusal :=
  match s.trunk.line, s.trunk.transmission with
  | .activeTx, some t =>
    .next (if t.phase = .driving then
      s.setTrunk { s.trunk with transmission := some (t.completed s.memory) } else s)
  | _, _ => .next s

/-- VALID_FRAME_END (R14): the activity of these characters ends and is judged (R12). -/
def execValidFrameEnd (characters : List Character) (s : State) : Host.Outcome State Fault Refusal :=
  match s.trunk.line with
  | .stuck => .next s
  | .idle | .activeRx | .activeTx => .next (s.activityBegins.activityEnds characters)

/-- INVALID_ACTIVITY_END (R13). It is the end of invalid activity whatever the characters are: they are not
judged, even where they would form a valid frame (log entry 8). -/
def execInvalidActivityEnd (s : State) (characters : List Character := []) :
    Host.Outcome State Fault Refusal :=
  match s.trunk.line with
  | .stuck => .next s
  | .idle | .activeRx | .activeTx => .next (s.activityBegins.invalidEnds (assemble characters).octets)

/-- LINE_FOUND_STUCK (R163), whatever the characters are (log entry 8). -/
def execLineFoundStuck (s : State) (characters : List Character := []) :
    Host.Outcome State Fault Refusal :=
  match s.trunk.line with
  | .stuck => .next s
  | .idle | .activeRx | .activeTx => .next (s.activityBegins.lineStuck (assemble characters).octets)

/-- RETURN_TO_IDLE (R166). -/
def execReturnToIdle (s : State) : Host.Outcome State Fault Refusal :=
  match s.trunk.line with
  | .stuck => .next s.lineReturns
  | .idle | .activeRx | .activeTx => .next s

end Sys2Proof.Machine
end

