-- ==== Sys2Proof/Machine/Dispatch.lean ====
section
/-!
DEFINITION. What each command does: one arm per constructor of `Instr`, one direct call of its meaning.
-/

namespace Sys2Proof.Machine

def exec (i : Instr) (s : State) : Host.Outcome State Fault Refusal :=
  match i with
  | .hardReset address rate line sel rst => Sys2Proof.Machine.execHardReset address rate line sel s rst
  | .restart address rate line => Sys2Proof.Machine.execRestart address rate line s
  | .activityStart => Sys2Proof.Machine.execActivityStart s
  | .transmitMismatch => Sys2Proof.Machine.execTransmitMismatch s
  | .transmissionComplete => Sys2Proof.Machine.execTransmissionComplete s
  | .validFrameEnd characters => Sys2Proof.Machine.execValidFrameEnd characters s
  | .invalidActivityEnd characters => Sys2Proof.Machine.execInvalidActivityEnd s characters
  | .lineFoundStuck characters => Sys2Proof.Machine.execLineFoundStuck s characters
  | .returnToIdle => Sys2Proof.Machine.execReturnToIdle s
  | .slotBegin overtaken => Sys2Proof.Machine.execSlotBegin s overtaken
  | .replyStart => Sys2Proof.Machine.execReplyStart s
  | .replyWatchTimeout => Sys2Proof.Machine.execReplyWatchTimeout s
  | .joinQuiet => Sys2Proof.Machine.execJoinQuiet s
  | .quietTimerExpiry => Sys2Proof.Machine.execQuietTimerExpiry s
  | .silenceTimerExpiry peer => Sys2Proof.Machine.execSilenceTimerExpiry peer s
  | .presenceTimerExpiry => Sys2Proof.Machine.execPresenceTimerExpiry s
  | .holdTimerExpiry queue => Sys2Proof.Machine.execHoldTimerExpiry queue s
  | .selFall => Sys2Proof.Machine.execSelFall s
  | .selRise => Sys2Proof.Machine.execSelRise s
  | .ident => Sys2Proof.Machine.execIdent s
  | .configure params => Sys2Proof.Machine.execConfigure params s
  | .leave => Sys2Proof.Machine.execLeave s
  | .join => Sys2Proof.Machine.execJoin s
  | .memWrite address count data => Sys2Proof.Machine.execMemWrite address count data s
  | .memRead address count => Sys2Proof.Machine.execMemRead address count s
  | .descWrite index kindByte destByte channelByte address length value link => Sys2Proof.Machine.execDescWrite index kindByte destByte channelByte address length value link s
  | .descRead index => Sys2Proof.Machine.execDescRead index s
  | .descDisarm index => Sys2Proof.Machine.execDescDisarm index s
  | .listWrite list count stations => Sys2Proof.Machine.execListWrite list count stations s
  | .queueStart queue index => Sys2Proof.Machine.execQueueStart queue index s
  | .queueResume queue => Sys2Proof.Machine.execQueueResume queue s
  | .queueStop queue => Sys2Proof.Machine.execQueueStop queue s
  | .queueRead queue => Sys2Proof.Machine.execQueueRead queue s
  | .inboxPost inbox address capacity => Sys2Proof.Machine.execInboxPost inbox address capacity s
  | .inboxTake inbox => Sys2Proof.Machine.execInboxTake inbox s
  | .inboxRead inbox => Sys2Proof.Machine.execInboxRead inbox s
  | .noticeTake word => Sys2Proof.Machine.execNoticeTake word s
  | .logTake => Sys2Proof.Machine.execLogTake s
  | .peerRead station => Sys2Proof.Machine.execPeerRead station s
  | .eventsRead => Sys2Proof.Machine.execEventsRead s
  | .eventsClear selection => Sys2Proof.Machine.execEventsClear selection s
  | .maskWrite enables => Sys2Proof.Machine.execMaskWrite enables s
  | .countersTake => Sys2Proof.Machine.execCountersTake s
  | .unknownCommand code => Sys2Proof.Machine.execUnknownCommand code s

end Sys2Proof.Machine
end

