-- ==== Sys2Proof/WellFormed.lean ====
section
/-!
DEFINITION. Well-formed commands: those whose operands are as the event or the port carries them. The
parameter checks of the host commands are no part of this: a command that fails them is well formed and is
refused by its meaning.
-/

namespace Sys2Proof

open Machine

/-- A command is well formed when:
- the activity of a VALID_FRAME_END is a valid frame (R12);
- a CONFIGURE carries its 50 parameter octets (Table 11-2);
- a MEM_WRITE or LIST_WRITE whose count is in range carries count octets of data, and carries none where
  the count is out of range, since it is taken at its count field (R171);
- an UNKNOWN_COMMAND's code is none of Table 11-2. -/
def Instr.wellFormed : Instr → Bool
  | .validFrameEnd characters => (judge characters).isSome
  | .configure params => params.length == 50
  | .memWrite _ count data =>
    if 1 ≤ count.toNat ∧ count.toNat ≤ maxPayload then data.length == count.toNat else data.isEmpty
  | .listWrite _ count stations =>
    if 1 ≤ count.toNat ∧ count.toNat ≤ 8 then stations.length == count.toNat else stations.isEmpty
  | .unknownCommand code => !definedCodes.contains code
  | .hardReset .. | .restart .. | .activityStart | .transmitMismatch | .transmissionComplete
  | .invalidActivityEnd .. | .lineFoundStuck .. | .returnToIdle | .slotBegin .. | .replyStart
  | .replyWatchTimeout | .joinQuiet | .quietTimerExpiry | .silenceTimerExpiry .. | .presenceTimerExpiry
  | .holdTimerExpiry .. | .selFall | .selRise | .ident | .leave | .join | .memRead .. | .descWrite ..
  | .descRead .. | .descDisarm .. | .queueStart .. | .queueResume .. | .queueStop .. | .queueRead ..
  | .inboxPost .. | .inboxTake .. | .inboxRead .. | .noticeTake .. | .logTake | .peerRead ..
  | .eventsRead | .eventsClear .. | .maskWrite .. | .countersTake => true

end Sys2Proof
end

