-- ==== Sys2Proof/Safety.lean ====
section
/-!
DEFINITION. The vocabulary of the statements: the port ready to take a command and the part after an
answer, the part in an exchange of its own or in none, what a hearing leaves, messages as queues take them,
and the invariants that every step keeps.
-/

namespace Sys2Proof.Machine

/-! ### The port -/

/-- R170: the port is in COMMAND with no octet held, so that the octets of a command can be clocked in. -/
def State.listens (s : State) : Prop := s.port.state = .command ∧ s.port.held = []

/-- R170, R174: the state with the port in RESPONSE, the status octet and the response data ready to be
shifted out; nothing else changes. -/
def State.answered (s : State) (status : Octet) (data : List Octet) : State :=
  s.setPort { s.port with state := .response, held := [], response := status :: data }

/-- R170 to R172: the command whose meaning takes place when `c` comes: the one that its octets complete,
together with those held; `c` itself where they complete none, and where `c` is no command of the host. -/
def State.acting (s : State) (c : Instr) : Instr :=
  match s.taken c with
  | some (command, _) => command
  | none => c

/-- R174: the commands that are answered UNCONFIGURED before CONFIGURE: those of Table 11-2 but IDENT,
CONFIGURE and RESTART. -/
def Instr.afterConfigure (c : Instr) : Prop :=
  ∃ code, commandCode c = some code ∧ code ≠ 0x01 ∧ code ≠ 0x02 ∧ code ≠ 0x03

/-- R175, Table 11-3: the ranges in which CONFIGURE's parameter octets are taken; `o n` is octet n. -/
def ConfigureInRange (o : Nat → Octet) : Prop :=
  (o 2).toNat ≤ 5 ∧ (o 3).toNat ≤ 7 ∧ (o 4).toNat ≠ 0 ∧ (o 5).toNat ≤ 15 ∧
    ∀ w : WordIx, (o (47 + w.val)).toNat % 4 ≠ 3 ∧
      ((o (47 + w.val)).toNat % 4 = 2 → (o (47 + w.val)).toNat / 4 < 32)

/-! ### Exchanges -/

/-- The station sends nothing, has sent nothing whose finding is open, and waits for no reply: an activity
that ends now is another station's and answers nothing. -/
def State.uninvolved (s : State) : Prop :=
  s.trunk.transmission = none ∧ s.trunk.watch = none ∧ s.claim.leaveDeferred = false

/-- An activity can end and be judged: the line is not STUCK, and its activity was not found in progress
when a reset ended (R4). -/
def State.canEnd (s : State) : Prop := s.trunk.line ≠ .stuck ∧ s.trunk.unseenStart = false

/-- R5, R10, Table 1-2: the REPLY of this station to another one. -/
def State.replyTo (s : State) (p : Station) (ch : InboxIx) (code : Octet) (last : Seq) (fresh : Bool)
    (offer : Offer) : Frame :=
  { epoch := s.epoch, src := s.own, ch, dst := some p, body := .reply code last fresh offer }

/-! ### Hearing a peer -/

/-- R38, R46, R47: the hearing of frame `f` reveals a restart of its source: a FRESH_START presence, or an epoch
that differs from the one recorded. -/
def State.reveals (s : State) (f : Frame) : Bool :=
  decide (f.src ≠ s.own) &&
    (decide (f.body = .presence true) || (s.peer f.src).epoch.any fun old => decide (old ≠ f.epoch))

/-- R48: send pair record (P, i) as the hearing of `f` leaves it. -/
def State.pairHeard (s : State) (f : Frame) (p : Station) (i : InboxIx) : SendPair :=
  if s.reveals f = true ∧ p = f.src then { s.sendPair p i with blind := 0 } else s.sendPair p i

/-- R48: credit hint (P, i) as the hearing of `f` leaves it. -/
def State.hintHeard (s : State) (f : Frame) (p : Station) (i : InboxIx) : Option Offer :=
  if s.reveals f = true ∧ p = f.src then none else s.hint p i

/-- R48: receive pair record (P, i) as the hearing of `f` leaves it. -/
def State.recordHeard (s : State) (f : Frame) (p : Station) (i : InboxIx) : Option Seq :=
  if s.reveals f = true ∧ p = f.src then none else s.receivePair p i

/-- R99: a context as the hearing of `f` leaves it: where a step toward the restarted station is under way, it
is not unconfirmed, and a step that was querying starts its attempts afresh. -/
def State.stepHeard (s : State) (f : Frame) (c : Context) : Context :=
  if s.reveals f = true ∧ c.station = some f.src ∧ c.outcome = none then
    { c with
      unconfirmed := false,
      stepAttempts := if c.copy.kind = .message ∧ 3 ≤ (s.sendPair f.src c.copy.inbox).blind then 0
        else c.stepAttempts }
  else c

/-- R50, R99: a queue as the hearing of `f` leaves it. -/
def State.queueHeard (s : State) (f : Frame) : QueueState → QueueState
  | .running c => .running (s.stepHeard f c)
  | .held c => .held (s.stepHeard f c)
  | .stopping c => .stopping (s.stepHeard f c)
  | .blockedLog c => .blockedLog c
  | .stopped => .stopped
  | .waitingAt d => .waitingAt d
  | .waitingAfter d => .waitingAfter d

/-! ### Sending -/

/-- R64: a taken copy is malformed: its buffer is not in packet memory or has no valid length, its destination
is of a type that its kind does not have, it is the own address, or it is a list that is empty or holds the own
address. -/
def State.malformed (s : State) (h : HostFields) : Prop :=
  (h.kind ≠ .notice ∧
    ¬ (1 ≤ h.length.val ∧ h.length.val ≤ 512 ∧ h.address.val + h.length.val ≤ 32768)) ∨
  (h.kind = .broadcast ∧ h.destination ≠ .all) ∨
  (h.kind ≠ .broadcast ∧ (h.destination = .all ∨ h.destination = .station s.own)) ∨
  ∃ n, h.destination = .list n ∧ (h.kind = .notice ∨ s.fanout n = [] ∨ s.own ∈ s.fanout n)

/-- R62, R63, R68: the context of a queue that has taken descriptor `d` and whose step toward destination
number `skipped + 1` begins, the `skipped` before it being SILENT and `later` still following it. -/
def State.firstContext (s : State) (d : DescIx) (skipped later : Nat) : Context :=
  { head := d, copy := (s.desc d).host,
    destinations := match (s.desc d).host.destination with
      | .station p => .one p
      | .list n => .list (s.fanout n)
      | .all => .all,
    current := skipped + 1,
    outcomes := List.replicate skipped .peerSilent ++ List.replicate (later + 1) .notTried,
    stepAttempts := 0, fullCount := 0, hold := none, attempts := 0, late := 0, outcome := none,
    lock := .none, unconfirmed := false, seqSent := none }

/-- The queue can take descriptor `d` now: it is STOPPED and QUEUE_START names `d` (R65), or it is WAITING at
`d`, or after a descriptor whose link is `d`, and QUEUE_RESUME makes it act (R66). -/
def State.canTake (s : State) (c : Instr) (q : QueueIx) (d : DescIx) : Prop :=
  (c = .queueStart (octet q.val) (octet d.val) ∧ s.queue q = .stopped) ∨
  (c = .queueResume (octet q.val) ∧
    (s.queue q = .waitingAt d ∨
      ∃ e, s.queue q = .waitingAfter e ∧ (s.desc e).host.link = some d))

/-- R57: descriptor `d` is available. -/
def State.isAvailable (s : State) (d : DescIx) : Prop := (s.desc d).armed = true ∧ (s.desc d).holder = none

/-- R68: descriptor `d` holds a MESSAGE whose first destination that is not SILENT is station `p`, after the
stations `skipped` and before the stations `later`. -/
def State.hasMessage (s : State) (d : DescIx) (p : Station) (skipped later : List Station) : Prop :=
  (s.desc d).host.kind = .message ∧ (s.peer p).state ≠ .silent ∧
  (((s.desc d).host.destination = .station p ∧ skipped = [] ∧ later = []) ∨
    ∃ n, (s.desc d).host.destination = .list n ∧ s.fanout n = skipped ++ p :: later ∧
      ∀ r ∈ skipped, (s.peer r).state = .silent)

/-- R65, R66, R71, R72: `t` is `s` after queue `q` has taken descriptor `d`, whose link is END, and its message
has settled at once with outcome `o`: handed back with its record, the queue waiting after it, and no pair
record or hint touched. -/
def State.settledAtOnce (s t : State) (q : QueueIx) (d : DescIx) (o : Outcome)
    (perDest : Option (List (Station × Outcome))) : Prop :=
  t.desc d = { s.desc d with armed := false, holder := none, outcome := some o, attempts := 0, late := 0,
                             perDest } ∧
  (∀ e, e ≠ d → t.desc e = s.desc e) ∧
  t.log = s.log ++ [{ queue := q, descriptor := d, outcome := o, attempts := 0, late := 0, perDest }] ∧
  t.queue q = .waitingAfter d ∧ (∀ r, r ≠ q → t.queue r = s.queue r) ∧ t.attention.queueIdle[q] = true ∧
  t.peers = s.peers ∧ t.trunk = s.trunk ∧ t.inboxes = s.inboxes ∧ t.memory = s.memory

/-- The queue's message has one destination, station `p`, its step is under way, and it is not settled. -/
def Context.toOne (c : Context) (p : Station) : Prop :=
  c.destinations = .one p ∧ c.current = 1 ∧ c.outcomes.length = 1 ∧ c.outcome = none

/-- R73: a frame of the queue is on the trunk. -/
def State.onTrunk (s : State) (q : QueueIx) : Prop :=
  (∃ tx f, s.trunk.transmission = some tx ∧ tx.item = .queue q f) ∨
  ∃ w, s.trunk.watch = some w ∧ w.queue = q

/-- R58, R71: a descriptor handed back with an outcome, the attempts and the late count of its message. -/
def Descriptor.handedBack (d : Descriptor) (c : Context) (o : Outcome) (late : Nat) : Descriptor :=
  { d with armed := false, holder := none, outcome := some o, attempts := c.attempts, late := late,
           perDest := none }

/-- R70: the outcome of a fan-out MESSAGE from the outcomes of its destinations: DELIVERED, PARTIAL or
UNDELIVERED. -/
def fanoutOutcome (outcomes : List Outcome) : Outcome :=
  if ∀ o ∈ outcomes, o = .delivered then .delivered
  else if .delivered ∈ outcomes then .partDelivered
  else .undelivered

/-- R86: the blind messages that a reply's LAST shows delivered. -/
def SendPair.found (r : SendPair) (last : Seq) (fresh : Bool) : Nat :=
  if fresh = false ∧ (last.val + 16 - r.anchor.val) % 16 ≤ r.blind
  then (last.val + 16 - r.anchor.val) % 16 else 0

/-- Table 11-3: the ranges in which DESC_WRITE's octets are taken. -/
def descWriteInRange (index kindByte destByte : Octet) (address : Half) (link : Octet) : Prop :=
  index.toNat < 128 ∧ kindByte.toNat % 4 ≠ 3 ∧ kindByte.toNat / 4 % 4 ≠ 3 ∧
  (kindByte.toNat / 4 % 4 = 0 → destByte.toNat < 32) ∧
  (kindByte.toNat / 4 % 4 = 1 → destByte.toNat < 16) ∧ address.toNat < 32768 ∧
  (link.toNat < 128 ∨ link.toNat = 255)

/-- R61: the ranges in which LIST_WRITE's octets are taken. -/
def State.listWriteInRange (s : State) (list count : Octet) (stations : List Octet) : Prop :=
  list.toNat < 16 ∧ 1 ≤ count.toNat ∧ count.toNat ≤ 8 ∧ (∀ o ∈ stations, o.toNat < 32) ∧
  stations.Nodup ∧ octet s.own.val ∉ stations

/-! ### Reporting -/

/-- Section 11.7: what an outcome octet holds. -/
def OutcomeOctets : Prop :=
  outcomeOctet none = 0 ∧
  [Outcome.delivered, .noReply, .refusedFull, .tooLong, .closed, .peerSilent, .stopped, .notTried,
    .partDelivered, .undelivered, .sent, .taken, .overwrote, .malformed].map
      (fun o => (outcomeOctet (some o), octet o.code)) =
    [(1, 1), (2, 2), (3, 3), (4, 4), (5, 5), (6, 6), (7, 7), (8, 8), (9, 9), (10, 10), (11, 11), (12, 12),
      (13, 13), (14, 14)]

/-! ### Invariants -/

/-- R56: packet memory is in its canonical form. -/
def MemoryForm (s : State) : Prop := s.memory.wf = true

/-- R105: a posted buffer lies in packet memory. -/
def Buffer.inside (b : Buffer) : Prop :=
  1 ≤ b.capacity ∧ b.capacity ≤ 512 ∧ b.address.val + b.capacity ≤ 32768

/-- R57, R61, R94: what a write-back of attempts, late count and per-destination list may hold. -/
def withinWriteBack (attempts late : Nat) (perDest : Option (List (Station × Outcome))) : Prop :=
  attempts ≤ 255 ∧ late ≤ 3 ∧ (perDest.getD []).length ≤ 8

/-- R57, R61, R62, R94, R123: the counts and lists of an in-flight context. -/
def Context.within (c : Context) : Prop :=
  c.attempts ≤ 255 ∧ c.late ≤ 3 ∧ c.fullCount ≤ 255 ∧ c.outcomes.length ≤ 8 ∧
  ∀ l, c.destinations = .list l → l.length ≤ 8

/-- The sizes and counts the spec limits: lists (R61, R103, R147), kept octets (R2), counters (00_scope.md
4.7), the consecutive collision count (R159), blind counts (R51), attempts, late and FULL counts (R57, R94,
R123), and the posted buffers (R105). -/
structure Capacity (s : State) : Prop where
  received : s.trunk.received.length ≤ 521
  fanout : ∀ n : ListIx, (s.fanout n).length ≤ 8
  descriptors : ∀ d : DescIx, withinWriteBack (s.desc d).attempts (s.desc d).late (s.desc d).perDest
  contexts : ∀ (q : QueueIx) (c : Context), (s.queue q).context = some c → c.within
  free : ∀ i : InboxIx, (s.inbox i).free.length ≤ 32
  arrivals : ∀ i : InboxIx, (s.inbox i).arrivals.length ≤ 64
  log : s.log.length ≤ 64
  records : ∀ r ∈ s.log, withinWriteBack r.attempts r.late r.perDest
  buffers : ∀ i : InboxIx, ∀ b ∈ (s.inbox i).free, b.inside
  drops : ∀ i : InboxIx, (s.inbox i).drops ≤ 65535
  counters : s.counters.invalid ≤ 65535 ∧ s.counters.collisions ≤ 65535 ∧ s.counters.noReply ≤ 65535 ∧
    s.counters.drops ≤ 65535
  collisions : s.claim.collisionCount ≤ 8
  blind : ∀ (p : Station) (i : InboxIx), (s.sendPair p i).blind ≤ 3

/-- R130, R131: an announcement is pending exactly while there are waiters and room. -/
def Announcements (s : State) : Prop :=
  ∀ i : InboxIx, (s.inbox i).announce = true ↔ (s.inbox i).waiters ≠ 0 ∧ 0 < (s.inbox i).offered

/-- The step under way of a queue holds the lock of (P, i) (R78). -/
def QueueState.holdsLock (st : QueueState) (p : Station) (i : InboxIx) : Prop :=
  ∃ c, st.context = some c ∧ c.lock = .taken ∧ c.pair = some (p, i)

/-- R71, R149: a message that waits for room is settled and holds no lock, and one that is being delivered
is not settled. -/
def QueueState.settlesOnce : QueueState → Prop
  | .running c | .held c => c.outcome = none
  | .blockedLog c => c.lock = .none
  | .stopping c => c.outcome.isSome → c.lock = .none
  | .stopped | .waitingAt _ | .waitingAfter _ => True

/-- R51, R79: a send pair record's lock names the queue whose step under way holds it, and every step that
holds a lock is named by its record. -/
structure Locks (s : State) : Prop where
  named : ∀ (p : Station) (i : InboxIx) (q : QueueIx),
    (s.sendPair p i).lock = some q ↔ (s.queue q).holdsLock p i
  once : ∀ q : QueueIx, (s.queue q).settlesOnce

/-- R57, R62, R63: a descriptor's holder is the queue whose head it is, and a descriptor that has a holder
is armed. -/
structure Holders (s : State) : Prop where
  named : ∀ (d : DescIx) (q : QueueIx),
    (s.desc d).holder = some q ↔ ∃ c, (s.queue q).context = some c ∧ c.head = d
  armed : ∀ d : DescIx, (s.desc d).holder.isSome → (s.desc d).armed = true

/-- R18, R30, R35, R176: the station is UNCONFIGURED exactly until CONFIGURE is taken, the join count runs
only in LISTENING on an IDLE line, and the quiet timer only in QUIET. -/
structure Timers (s : State) : Prop where
  configured : s.claim.state = .unconfigured ↔ s.settings = none
  join : s.claim.joinCount.isSome → s.claim.state = .listening ∧ s.trunk.line = .idle
  quiet : s.claim.quietTimer.isSome ↔ s.claim.state = .quiet
  leave : s.claim.leaveDeferred = true → s.trunk.line = .activeTx ∧ s.claim.state.onTrunk = true

end Sys2Proof.Machine
end

