-- ==== Sys2Proof/Certificates/Slice0/Obligations.lean ====
section
/-!
DEFINITION. The statements for the provers. Each docstring names the rule of spec/ it formalises, or the log
entry of a choice of the model's.
-/

open Sys2Proof Sys2Proof.Machine

/-! ### The block and its clock -/

/-- The command at the front of the queue is run on the state with the rest of the queue (log entry 24). -/
def Obligations.StepTakesTheFrontCommand : Prop :=
  ∀ (c : Instr) (rest : List Instr) (s : State),
    s.pending = c :: rest → step s = exec c (s.setPending rest)

/-- Every command completes in every state, and no command changes the commands that wait. That an event the
present state excludes changes nothing, that octets which complete no command are held, and that commands wait
in `State.pending`, are the model's choices (log entries 6, 11, 24). -/
def Obligations.EveryCommandCompletes : Prop :=
  ∀ (c : Instr) (s : State), ∃ t, exec c s = .next t ∧ t.pending = s.pending

/-- With no command waiting, one bit time passes: the counts and timers that run move by one and nothing
else does, but for the octets of a transmission and the events queued. That a step is one bit time is the
model's choice (log entry 3). -/
def Obligations.BitTimeMovesOnlyTheCounts : Prop :=
  ∀ s : State, s.pending = [] → ∃ t, step s = .next t ∧
    t.claim = { s.claim with
      idleTime := if s.trunk.line = .idle then s.claim.idleTime + 1 else s.claim.idleTime,
      joinCount := s.claim.joinCount.map (· + 1),
      quietTimer := s.claim.quietTimer.map (· - 1) } ∧
    t.peers.presenceTimer = s.peers.presenceTimer.map (· + 1) ∧
    t.peers.presenceDue = s.peers.presenceDue ∧
    (∀ p : Station, t.peer p = { s.peer p with silence := (s.peer p).silence.map (· + 1) }) ∧
    (∀ (q : QueueIx) (c : Context), s.queue q = .held c →
      t.queue q = .held { c with hold := c.hold.map (· - 1) }) ∧
    (∀ q : QueueIx, (∀ c, s.queue q ≠ .held c) → t.queue q = s.queue q) ∧
    { t.trunk with transmission := none } = { s.trunk with transmission := none } ∧
    t.straps = s.straps ∧ t.rst = s.rst ∧ t.store = s.store ∧ t.inboxes = s.inboxes ∧ t.words = s.words ∧
    t.log = s.log ∧ t.attention = s.attention ∧ t.counters = s.counters ∧ t.memory = s.memory ∧
    t.port = s.port ∧ t.settings = s.settings

/-- R21, R22: the own slot is (own address - L - 1) mod 32; with one L every slot number belongs to exactly
one address, the last winner has slot 31 and the next address slot 0; and slot k begins at each idle time
16 + 4k + 128m on an IDLE line. That a step with no command waiting is one bit time, which queues the
SLOT_BEGIN that falls due, is the model's choice (log entries 3, 5); while a join count runs, the own slot may
also change in that bit time (R32), which this statement leaves out. -/
def Obligations.OwnSlotBeginsAtItsIdleTime : Prop :=
  (∀ s : State, s.pending = [] → s.claim.joinCount = none → ∃ t, step s = .next t ∧
    (Instr.slotBegin false ∈ t.pending ↔ s.trunk.line = .idle ∧ ∃ m : Nat,
      s.claim.idleTime + 1 =
        16 + 4 * ((s.own.val + 31 - s.claim.lastWinner.val) % 32) + 128 * m)) ∧
  (∀ L slot : Station, ∃! a : Station, ownSlot a L = slot) ∧
  (∀ L : Station, ownSlot L L = 31 ∧ ownSlot (L + 1) L = 0) ∧
  (∀ a : Station, ownSlot a 31 = a) ∧
  ∀ (k : Station) (idle : Nat),
    slotBeginsAt k idle = true ↔ ∃ m, idle = 16 + 4 * k.val + 128 * m

/-- The limits at and past which the events of time are due: the join quiet at 288 (R32), the quiet timer at
its end (R35), the REPLY at idle time 6 (R28), the reply watch at idle time 12 (R17), the silence limit (R40),
the presence interval (R43), the end of a hold (R125). The model's choices: a step with no command waiting is
one bit time and queues what is due (log entries 3, 5), a limit that has been passed keeps its event due (log
entry 27), and the bit times of a millisecond (log entry 4). -/
def Obligations.TimedEventsFallDueAtTheirLimits : Prop :=
  ∀ s : State, s.pending = [] → ∃ t, step s = .next t ∧
    (Instr.joinQuiet ∈ t.pending ↔ ∃ n, s.claim.joinCount = some n ∧ 288 ≤ n + 1) ∧
    (Instr.quietTimerExpiry ∈ t.pending ↔ ∃ n, s.claim.quietTimer = some n ∧ n ≤ 1) ∧
    (Instr.replyStart ∈ t.pending ↔
      s.trunk.line = .idle ∧ s.trunk.reply.isSome ∧ 6 ≤ s.claim.idleTime + 1) ∧
    (Instr.replyWatchTimeout ∈ t.pending ↔
      s.trunk.line = .idle ∧ s.trunk.watch.isSome ∧ 12 ≤ s.claim.idleTime + 1) ∧
    (∀ set : Settings, s.settings = some set →
      (∀ p : Station, Instr.silenceTimerExpiry p ∈ t.pending ↔ ∃ n, (s.peer p).silence = some n ∧
        3 * (8 * 2 ^ set.presence.val) * bitTimesPerMs s.straps.rate ≤ n + 1) ∧
      (Instr.presenceTimerExpiry ∈ t.pending ↔ ∃ n, s.peers.presenceTimer = some n ∧
        8 * 2 ^ set.presence.val * bitTimesPerMs s.straps.rate ≤ n + 1)) ∧
    (∀ q : QueueIx, Instr.holdTimerExpiry q ∈ t.pending ↔
      ∃ c n, s.queue q = .held c ∧ c.hold = some n ∧ n ≤ 1)

/-! ### The host port -/

/-- R169 to R172: SEL falling opens a transaction and SEL rising ends it, whatever it had come to. The octets
of a host command are ignored in IDLE and in RESPONSE, where they shift out the response; in COMMAND they are
only held while they complete no command, and with those held they complete whatever command the octets
spell, which then has the effect it has on a port that holds none; octets after it shift out its response.
SDO is at high impedance while SEL is high, and otherwise carries the next response octet, 0x00 where none is
due, most significant bit first, as SDI is read. That octets come as runs, one run to a command, is the
model's choice (log entry 11). -/
def Obligations.TransactionsOpenEndAndTakeOctets : Prop :=
  (∀ s : State, s.port.sel = .high → s.port.state = .idle → s.rst = .high →
    exec .selFall s =
      .next (s.setPort { state := .command, held := [], response := [], sel := .low })) ∧
  (∀ s : State, exec .selRise s =
    .next (s.setPort { state := .idle, held := [], response := [], sel := .high })) ∧
  (∀ (c : Instr) (s : State), ((commandCode c).isSome = true ∨ ∃ code, c = .unknownCommand code) →
    (s.port.state = .idle → exec c s = .next s) ∧
    (s.port.state = .response → exec c s =
      .next (s.setPort { s.port with response := s.port.response.drop (carriedBy c).length })) ∧
    (s.port.state = .command →
      (∀ n, 1 ≤ n → n ≤ (carriedBy c).length →
        commandComplete (s.port.held ++ (carriedBy c).take n) = false) →
      exec c s = .next (s.setPort { s.port with held := s.port.held ++ carriedBy c })) ∧
    ∀ (x : Instr) (extra : List Octet), s.port.state = .command → x.wellFormed = true →
      (∀ a r l, x ≠ .restart a r l) → s.port.held ++ carriedBy c = carriedBy x ++ extra →
      s.port.held.length < (carriedBy x).length →
      ∃ u : State, exec x (s.setPort { s.port with held := [] }) = .next u ∧ u.port.state = .response ∧
        exec c s =
          .next (u.setPort { u.port with response := u.port.response.drop extra.length })) ∧
  (∀ (p : HostPort) (n : Nat),
    (p.sel = .high → p.sdo n = none) ∧
    (p.sel = .low → n < 8 → p.sdo n =
      some ((if p.state = .response then p.response.headD 0x00 else 0x00).getLsbD (7 - n)))) ∧
  ∀ o : Octet, octetOfShifted (List.ofFn fun n : Fin 8 => o.getLsbD (7 - n.val)) = o

/-- R171, R174, items 1 and 2: before CONFIGURE every command of Table 11-2 but IDENT, CONFIGURE and
RESTART is answered UNCONFIGURED (0x06), a code that no command has is taken at once and answered
UNKNOWN_COMMAND (0x08), and neither changes anything. -/
def Obligations.CommandsAreRefusedByCodeAndState : Prop :=
  (∀ (c : Instr) (s : State), Instr.afterConfigure c → c.wellFormed = true → s.listens →
    s.settings = none → exec c s = .next (s.answered 0x06 [])) ∧
  ∀ (code : Octet) (s : State), (∀ c, commandCode c ≠ some code) → s.listens →
    exec (.unknownCommand code) s = .next (s.answered 0x08 [])

/-! ### Resets -/

/-- R4, R19, R55, R77, R120, R144, R156, R168, R170: what a hard reset leaves in every block, RST then standing
as the event gives it; while RST is held low the port stays in IDLE, SEL being ignored. That a HARD_RESET with
RST low is a reset that has begun, and that the part holds these values while RST is held low, is the model's
choice (log entry 21). -/
def Obligations.HardResetRestoresEveryBlock : Prop :=
  (∀ (a : Station) (r : Fin 4) (line : LineLevel) (sel rst : PinLevel) (s : State),
    exec (.hardReset a r line sel rst) s = .next
      { straps := { address := a, rate := r },
        rst := rst,
        trunk := { line := if line = .mark then .idle else .activeRx,
                   unseenStart := decide (line = .space), received := [], receivedCount := 0,
                   transmission := none, reply := none, watch := none },
        claim := { state := .unconfigured, lastWinner := 31, idleTime := 0, joinCount := none,
                   quietTimer := none, collisionCount := 0, lastUrgent := 3, lastRoutine := 3,
                   freshStartOwed := false, freshStartPending := false, leaveDeferred := false },
        peers := { entries := Vector.ofFn fun p : Fin 32 =>
                     { state := if p = a then .self else .unknown, epoch := none, silence := none,
                       send := Vector.replicate 8 { anchor := 15, blind := 0, lock := none },
                       hints := Vector.replicate 8 none, receive := Vector.replicate 8 none },
                   presenceTimer := none, presenceDue := false },
        store := { descriptors := Vector.replicate 128
                     { host := { kind := .message, destination := .station 0, inbox := 0, word := 0,
                                 address := 0, length := 0, value := 0, link := some 0,
                                 notify := false },
                       armed := false, holder := none, outcome := none, attempts := 0, late := 0,
                       perDest := none },
                   lists := Vector.replicate 16 [] },
        queues := Vector.replicate 4 .stopped,
        inboxes := Vector.replicate 8
          { free := [], arrivals := [], waiters := 0, announce := false, drops := 0 },
        words := Vector.replicate 4 { value := 0, writer := none, unread := false },
        log := [],
        attention := { peerChange := false, peerRestart := false,
                       queueIdle := Vector.replicate 4 false, quietEntered := false,
                       lineStuck := false, mask := 0 },
        counters := { invalid := 0, collisions := 0, noReply := 0, drops := 0 },
        memory := { cells := [] },
        port := { state := .idle, held := [], response := [], sel := sel },
        settings := none,
        pending := s.pending }) ∧
  ∀ s : State, s.rst = .low → s.port.sel = .high →
    exec .selFall s = .next (s.setPort { s.port with sel := .low })

/-- R178: RESTART leaves what a hard reset leaves, but for packet memory and fan-out lists, which are kept,
descriptors, which are kept and disarmed, and the port, which answers DONE. -/
def Obligations.RestartKeepsMemoryDescriptorsAndLists : Prop :=
  ∀ (a : Station) (r : Fin 4) (line : LineLevel) (s : State), s.listens →
    ∃ t u, exec (.restart a r line) s = .next t ∧ exec (.hardReset a r line .low s.rst) s = .next u ∧
      t.memory = s.memory ∧ t.store.lists = s.store.lists ∧
      (∀ d : DescIx, t.desc d = { s.desc d with armed := false, holder := none }) ∧
      t.port = { s.port with state := .response, held := [], response := [0x00] } ∧
      t = { u with memory := t.memory, store := t.store, port := t.port }

/-- The reset state is what a hard reset leaves on the board that log entry 2 chooses, whatever the part
held before, with no command waiting; its ATTN is released, every event flag is clear (R156), and every
invariant that the steps keep holds in it. -/
def Obligations.ResetStateIsAHardReset : Prop :=
  (∀ s : State, exec (.hardReset Config.powerOnAddress Config.powerOnRate .mark .high .high) s =
    .next (State.reset.setPending s.pending)) ∧
  State.reset.pending = [] ∧ State.reset.attn = false ∧ (∀ n, State.reset.eventFlag n = false) ∧
  MemoryForm State.reset ∧ Capacity State.reset ∧ Announcements State.reset ∧ Locks State.reset ∧
  Holders State.reset ∧ Timers State.reset

/-! ### Configuration and the station -/

/-- R38, R43, R104, R136, R175, R176, Table 11-3: a CONFIGURE in range is answered DONE; every setting is as
its octets give it, the own address left out of every source set, and the station is LISTENING with fresh
start owed. -/
def Obligations.ConfigureTakesItsParameters : Prop :=
  ∀ (params : List Octet) (s : State) (o : Nat → Octet), params.length = 50 →
    (∀ n, o n = params.getD (n - 1) 0) → s.listens → s.settings = none → ConfigureInRange o →
    ∃ (t : State) (set : Settings), exec (.configure params) s = .next (t.answered 0x00 []) ∧
      t = { s with
        settings := some set,
        claim := { s.claim with
          state := .listening, freshStartOwed := true, quietTimer := none,
          joinCount := if s.trunk.line = .idle then some 0 else none },
        peers := { (s.setPeer s.own { s.peer s.own with epoch := some set.epoch }).peers with
          presenceTimer := some 0 } } ∧
      set.epoch.toNat = (o 1).toNat % 16 ∧ set.presence.val = (o 2).toNat ∧
      set.retryLimit = (o 3).toNat ∧ set.holdLimit = (o 4).toNat ∧ set.patience = (o 5).toNat ∧
      (∀ q : QueueIx, set.queues[q] =
        { urgent := (o 6).getLsbD (2 * q.val), logAll := (o 6).getLsbD (2 * q.val + 1) }) ∧
      (∀ i : InboxIx, (set.inboxes[i]).enabled = (o (7 + 5 * i.val)).getLsbD 0 ∧
        (set.inboxes[i]).broadcast = (o (7 + 5 * i.val)).getLsbD 1 ∧
        ∀ p : Station, (set.inboxes[i]).sources.getLsbD p.val =
          (decide (p ≠ s.own) && (o (8 + 5 * i.val + p.val / 8)).getLsbD (p.val % 8))) ∧
      ∀ w : WordIx, set.access[w] =
        match (o (47 + w.val)).toNat % 4 with
        | 0 => .closed
        | 1 => .opened
        | _ => .restricted (Fin.ofNat 32 ((o (47 + w.val)).toNat / 4))

/-- R174, item 3, and R175: a CONFIGURE out of range is answered REFUSED_ARG (0x03), a second one LOCKED
(0x07), and neither changes anything. -/
def Obligations.ConfigureOutOfRangeOrTwiceIsRefused : Prop :=
  ∀ (params : List Octet) (s : State) (o : Nat → Octet), params.length = 50 →
    (∀ n, o n = params.getD (n - 1) 0) → s.listens →
    (s.settings = none → ¬ ConfigureInRange o →
      exec (.configure params) s = .next (s.answered 0x03 [])) ∧
    (s.settings.isSome = true → exec (.configure params) s = .next (s.answered 0x07 []))

/-- R56, R176: no command but a reset changes a setting of CONFIGURE once it is taken, or the straps, or the
level of RST. Packet memory changes only by a hard reset, by MEM_WRITE, and at the end of a valid DATA or
BCAST, whose payload an inbox accepts: then only inside the head buffer of the frame's inbox, which the
payload fits. -/
def Obligations.SettingsAndMemoryChangeOnlyByTheirCommands : Prop :=
  (∀ (c : Instr) (s t : State), (∀ a r l v w, c ≠ .hardReset a r l v w) →
    (∀ a r l, s.acting c ≠ .restart a r l) → exec c s = .next t →
    t.straps = s.straps ∧ t.rst = s.rst ∧ (s.settings.isSome = true → t.settings = s.settings)) ∧
  (∀ (c : Instr) (s t : State), exec c s = .next t →
    (∀ a r l v w, c ≠ .hardReset a r l v w) → (∀ a n l, s.acting c ≠ .memWrite a n l) →
    (∀ l, c ≠ .validFrameEnd l) → t.memory = s.memory) ∧
  ∀ (line : List Character) (s t : State), exec (.validFrameEnd line) s = .next t →
    t.memory = s.memory ∨
    ∃ (f : Frame) (payload : List Octet) (b : Buffer) (rest : List Buffer), judge line = some f ∧
      (f.body = .bcast payload ∨ ∃ seq, f.body = .data seq payload) ∧
      (s.inbox f.ch).free = b :: rest ∧ payload.length ≤ b.capacity ∧
      ∀ a : Nat, ¬ (b.address.val ≤ a ∧ a < b.address.val + payload.length) →
        t.memory.read a = s.memory.read a

/-- R177, Table 11-4: IDENT is answered in every state with the part code 0x2416, the revision code, the
straps and the station trunk state, and changes nothing. -/
def Obligations.IdentReportsStrapsAndTrunkState : Prop :=
  ∀ s : State, s.listens →
    exec .ident s = .next (s.answered 0x00
      [0x16, 0x24, 0x01, octet s.straps.address.val, octet s.straps.rate.val,
        match s.claim.state with
        | .unconfigured => 0
        | .listening => 1
        | .active => 2
        | .quiet => 3
        | .offline => 4])

/-- R33, R34: LEAVE moves a station that is not OFFLINE to OFFLINE, at once unless it is driving its own
transmission; a LEAVE so deferred is done when that activity ends, however it ends. JOIN moves an OFFLINE
station to LISTENING and starts the join count on an IDLE line. Each is answered REFUSED_STATE (0x02) in the
other states and changes nothing. -/
def Obligations.LeaveAndJoinMoveTheStation : Prop :=
  (∀ s : State, s.listens → s.settings.isSome = true → s.claim.state ≠ .unconfigured →
    (s.claim.state ≠ .offline → s.trunk.line ≠ .activeTx →
      exec .leave s = .next (State.answered { s with
        claim := { s.claim with
          state := .offline, joinCount := none, quietTimer := none, leaveDeferred := false },
        trunk := { s.trunk with reply := none } } 0x00 [])) ∧
    (s.claim.state ≠ .offline → s.trunk.line = .activeTx →
      exec .leave s = .next (State.answered
        { s with claim := { s.claim with leaveDeferred := true } } 0x00 [])) ∧
    (s.claim.state = .offline → exec .leave s = .next (s.answered 0x02 []))) ∧
  (∀ (line : List Character) (s : State), s.claim.leaveDeferred = true → s.trunk.line = .activeTx →
    s.settings.isSome = true →
    let left (t : State) : Prop := t.claim.state = .offline ∧ t.claim.leaveDeferred = false ∧
      t.claim.joinCount = none ∧ t.claim.quietTimer = none ∧ t.trunk.line = .idle
    ∃ t u : State, exec (.validFrameEnd line) s = .next t ∧ left t ∧
      exec (.invalidActivityEnd line) s = .next u ∧ left u) ∧
  ∀ s : State, s.listens → s.settings.isSome = true →
    (s.claim.state = .offline → exec .join s = .next (State.answered
      { s with claim := { s.claim with
          state := .listening, quietTimer := none,
          joinCount := if s.trunk.line = .idle then some 0 else none } } 0x00 [])) ∧
    (s.claim.state ≠ .offline → exec .join s = .next (s.answered 0x02 []))

/-! ### Packet memory -/

/-- R179: MEM_WRITE in range stores its octets from the address onward and leaves every other octet; out of
range it is answered REFUSED_ARG (0x03) and changes nothing. -/
def Obligations.MemWriteStoresExactlyItsOctets : Prop :=
  ∀ (address count : Half) (data : List Octet) (s : State), MemoryForm s → s.listens →
    s.settings.isSome = true → (Instr.memWrite address count data).wellFormed = true →
    (1 ≤ count.toNat → count.toNat ≤ 512 → address.toNat + count.toNat ≤ 32768 →
      ∃ m : Memory,
        exec (.memWrite address count data) s = .next ({ s with memory := m }.answered 0x00 []) ∧
        m.wf = true ∧ ∀ a : Nat, m.read a =
          if address.toNat ≤ a ∧ a < address.toNat + count.toNat
          then data.getD (a - address.toNat) 0 else s.memory.read a) ∧
    (¬ (1 ≤ count.toNat ∧ count.toNat ≤ 512 ∧ address.toNat + count.toNat ≤ 32768) →
      exec (.memWrite address count data) s = .next (s.answered 0x03 []))

/-- R179: MEM_READ in range is answered with the octets as they stand, lowest address first, and changes
nothing; out of range it is answered REFUSED_ARG (0x03). -/
def Obligations.MemReadReturnsTheStoredOctets : Prop :=
  ∀ (address count : Half) (s : State), s.listens → s.settings.isSome = true →
    (1 ≤ count.toNat → count.toNat ≤ 512 → address.toNat + count.toNat ≤ 32768 →
      exec (.memRead address count) s = .next (s.answered 0x00
        (List.ofFn fun n : Fin count.toNat => s.memory.read (address.toNat + n.val)))) ∧
    (¬ (1 ≤ count.toNat ∧ count.toNat ≤ 512 ∧ address.toNat + count.toNat ≤ 32768) →
      exec (.memRead address count) s = .next (s.answered 0x03 []))


/-! ### Frames -/

/-- R1, R2, R5, R6, R12, Tables 1-1 to 1-4: the octets of a frame that a station may compose are judged a
valid frame with every field read back; sent in the ten-bit form they are assembled and judged the same, and
glitches, whose start bit is sampled at MARK, change nothing. -/
def Obligations.SentFramesAreReadBackWhole : Prop :=
  (∀ f : Frame, f.legal = true → parseFrame (encodeFrame f) = some f) ∧
  ∀ (f : Frame) (line : List Character), f.legal = true →
    line.filter (fun c => !c.getLsbD 0) = (encodeFrame f).map lineCharacter → judge line = some f

/-- R2, R5, R12, R13, Tables 1-1 to 1-3: an activity is judged a valid frame exactly where no octet of it has a
framing fault, octet 1 is SYNC, KIND is 1 to 6 or 8, DST is legal for the kind, bit 6 of octet 4 is 0, LEN is 1
to 512, the length is the one of the kind and LEN, and the last two octets are the CRC of what stands between;
and every field of the frame is then what its octets give. -/
def Obligations.ValidFramesMeetEveryCondition : Prop :=
  ∀ line : List Character,
    let o := (assemble line).octets
    let oct (n : Nat) : Nat := (o.getD (n - 1) 0).toNat
    let kind := oct 2 / 16
    let code := oct 4 % 64
    let len (n : Nat) : Nat := oct n + 256 * oct (n + 1)
    ((judge line).isSome = true ↔
      (∀ c ∈ line, c.getLsbD 0 = false → c.getLsbD 9 = true) ∧
      oct 1 = 0xC3 ∧ (kind ∈ [1, 2, 3, 4, 5, 6, 8]) ∧
      (kind ∈ [1, 3, 4, 8] → code < 32) ∧ (kind ∈ [2, 5, 6] → code = 63) ∧
      (oct 4).testBit 6 = false ∧
      (kind = 1 → 1 ≤ len 6 ∧ len 6 ≤ 512) ∧ (kind = 2 → 1 ≤ len 5 ∧ len 5 ≤ 512) ∧
      o.length = (match kind with
        | 1 => 9 + len 6
        | 2 => 8 + len 5
        | 3 => 11
        | 5 => 7
        | 8 => 9
        | _ => 6) ∧
      o.drop (o.length - 2) = octetsOf 2 (crc ((o.take (o.length - 2)).drop 1)).toNat) ∧
    ∀ f : Frame, judge line = some f →
      f.epoch.toNat = oct 2 % 16 ∧ f.src.val = oct 3 % 32 ∧ f.ch.val = oct 3 / 32 ∧
      f.dst = (if code = 63 then none else some (Fin.ofNat 32 code)) ∧
      f.body = (match kind with
        | 1 => .data (Fin.ofNat 16 (oct 5)) ((o.drop 7).take (len 6))
        | 2 => .bcast ((o.drop 6).take (len 5))
        | 3 => .notice (Fin.ofNat 4 (oct 5)) (BitVec.ofNat 32 (len 6 + 65536 * len 8))
        | 4 => .step
        | 5 => .credit (Fin.ofNat 64 (oct 5))
        | 6 => .presence ((oct 4).testBit 7)
        | _ => .reply (octet (oct 5)) (Fin.ofNat 16 (oct 6)) ((oct 6).testBit 4) (Fin.ofNat 64 (oct 7)))

/-- R5, R6, Tables 1-1 to 1-3: the CRC value of the nine octets 0x31 through 0x39 is 0x29B1, sent as 0xB1 then
0x29; and every frame is laid out octet by octet: SYNC, the header, the control octets of its kind, the
payload, and the CRC of all but SYNC, low octet first. -/
def Obligations.CrcCheckValueAndHeaderLayout : Prop :=
  crc [0x31, 0x32, 0x33, 0x34, 0x35, 0x36, 0x37, 0x38, 0x39] = 0x29B1 ∧
  crcOctets [0x31, 0x32, 0x33, 0x34, 0x35, 0x36, 0x37, 0x38, 0x39] = [0xB1, 0x29] ∧
  ∀ f : Frame,
    let kind : Nat := match f.body with
      | .data .. => 1
      | .bcast .. => 2
      | .notice .. => 3
      | .step => 4
      | .credit .. => 5
      | .presence .. => 6
      | .reply .. => 8
    let dst : Nat := match f.dst with
      | some p => p.val
      | none => 63
    let freshStart : Nat := match f.body with
      | .presence true => 128
      | _ => 0
    let controls : List Octet := match f.body with
      | .data seq p => [octet seq.val, octet (p.length % 256), octet (p.length / 256)] ++ p
      | .bcast p => [octet (p.length % 256), octet (p.length / 256)] ++ p
      | .notice w v => [octet w.val, octet (v.toNat % 256), octet (v.toNat / 256 % 256),
          octet (v.toNat / 65536 % 256), octet (v.toNat / 16777216)]
      | .step | .presence _ => []
      | .credit offer => [octet offer.val]
      | .reply code last fresh offer =>
        [code, octet (last.val + if fresh then 16 else 0), octet offer.val]
    let covered : List Octet := [octet (16 * kind + f.epoch.toNat), octet (32 * f.ch.val + f.src.val),
      octet (dst + freshStart)] ++ controls
    encodeFrame f = 0xC3 :: covered ++
      [octet ((crc covered).toNat % 256), octet ((crc covered).toNat / 256)]

/-! ### Claiming the trunk -/

/-- R15, R23 to R25, R27, R69: at the own slot of an ACTIVE station on an IDLE line the first of these that is
pending is begun: the FRESH_START presence, the credit announcement of the lowest inbox, the first ready
URGENT queue after the URGENT pointer, the first ready ROUTINE queue after the ROUTINE pointer, a due
PRESENCE. A queue is ready exactly where it is RUNNING with no frame on the trunk, the station is ACTIVE, and
for a MESSAGE step the pair's lock is free or its own and the credit hint is not 0. Where another station's
activity begins first, the item is returned unsent (log entry 19): the rotation pointers move as in the grant,
a queue's SEQ sent becomes absent, and nothing else changes but what the activity's beginning changes. -/
def Obligations.SlotGrantsTheFirstPendingItem : Prop :=
  (∀ s : State, s.claim.state = .active → s.trunk.line = .idle → ∃ t, exec (.slotBegin false) s = .next t ∧
    let begun (i : Item) : Prop := t.trunk.line = .activeTx ∧ t.trunk.transmission.map (·.item) = some i
    let noCredit : Prop := ∀ i : InboxIx, (s.inbox i).announce = false
    let ready (urgent : Bool) (q : QueueIx) : Prop :=
      (s.queueSetting q).urgent = urgent ∧ s.queueReady q = true
    let next (urgent : Bool) (pointer q : QueueIx) : Prop :=
      ready urgent q ∧ ∃ k : Nat, k < 4 ∧ q = pointer + 1 + Fin.ofNat 4 k ∧
        ∀ j < k, ¬ ready urgent (pointer + 1 + Fin.ofNat 4 j)
    (s.claim.freshStartPending = true → begun .freshStart) ∧
    (s.claim.freshStartPending = false → ∀ i : InboxIx, (s.inbox i).announce = true →
      (∀ j < i, (s.inbox j).announce = false) → begun (.credit i)) ∧
    (s.claim.freshStartPending = false → noCredit →
      ∀ q : QueueIx, next true s.claim.lastUrgent q →
        (∃ f, begun (.queue q f)) ∧ t.claim.lastUrgent = q ∧ t.claim.lastRoutine = s.claim.lastRoutine) ∧
    (s.claim.freshStartPending = false → noCredit → (∀ q, ¬ ready true q) →
      ∀ q : QueueIx, next false s.claim.lastRoutine q →
        (∃ f, begun (.queue q f)) ∧ t.claim.lastRoutine = q ∧ t.claim.lastUrgent = s.claim.lastUrgent) ∧
    (s.claim.freshStartPending = false → noCredit → (∀ u q, ¬ ready u q) →
      (s.peers.presenceDue = true → begun .presence) ∧ (s.peers.presenceDue = false → t = s))) ∧
  (∀ (s : State) (q : QueueIx), s.queueReady q = true ↔ ∃ c, s.queue q = .running c ∧
    s.claim.state = .active ∧ ¬ s.onTrunk q ∧
    (c.copy.kind = .message → ∀ p : Station, c.station = some p →
      ((s.sendPair p c.copy.inbox).lock = none ∨ (s.sendPair p c.copy.inbox).lock = some q) ∧
      s.hint p c.copy.inbox ≠ some 0)) ∧
  ∀ s : State, s.claim.state = .active → s.trunk.line = .idle →
    ∃ t u : State, exec (.slotBegin true) s = .next t ∧ exec (.slotBegin false) s = .next u ∧
      t = { s with
        trunk := { s.trunk with line := .activeRx, received := [], receivedCount := 0, reply := none },
        claim := { s.claim with joinCount := none, lastUrgent := u.claim.lastUrgent,
                                lastRoutine := u.claim.lastRoutine },
        queues := t.queues } ∧
      ∀ q : QueueIx, t.queue q = s.queue q ∨
        ∃ c, s.queue q = .running c ∧ t.queue q = .running { c with seqSent := none }

/-- R5, R15, R82, R83: a granted DATA leaves the trunk interface as the frame with the own address and
epoch, the step's station and inbox, the SEQ anchor + blind count + 1 modulo 16, and the octets of the
copy's buffer; the SEQ is recorded, and the pair record is not touched by the grant. That the payload is as
packet memory holds it where TRANSMISSION_COMPLETE comes before any bit time is log entry 23. -/
def Obligations.GrantedDataCarriesTheNextSequence : Prop :=
  ∀ (s : State) (q : QueueIx) (c : Context) (p : Station) (i : InboxIx),
    s.claim.state = .active → s.trunk.line = .idle → s.arbitrate = some (.queue q) →
    s.queue q = .running c → c.pair = some (p, i) → (s.sendPair p i).blind ≤ 2 →
    c.copy.length.val ≤ 512 → 1 ≤ c.copy.length.val →
    ∃ (t u : State) (seq : Seq) (tx : Transmission), exec (.slotBegin false) s = .next t ∧
      exec .transmissionComplete t = .next u ∧
      seq.val = ((s.sendPair p i).anchor.val + (s.sendPair p i).blind + 1) % 16 ∧
      t.queue q = .running { c with seqSent := some seq } ∧ t.peers = s.peers ∧
      u.trunk.transmission = some tx ∧ tx.item = .queue q .data ∧ tx.phase = .complete ∧
      tx.sent = encodeFrame
        { epoch := s.epoch, src := s.own, ch := i, dst := some p,
          body := .data seq (s.memory.readOctets c.copy.address.val c.copy.length.val) }

/-- R1, R15, R16: an octet takes ten bit times on the line, a start bit driven at SPACE, its bits least
significant first, SPACE driven for 0 and the line released for 1, and a stop bit released; after a mismatch or
the last stop bit, and outside ACTIVE_TX, nothing is driven. When a transmission is complete, the octets already
sent have been followed by the rest: those fixed at the grant, the payload as packet memory now holds it, and
the CRC of what was sent; with no command waiting the next octet, and each bit of it, goes out at a bit time
(log entries 3, 5, 23). R5, R9, R28, R45, R83, R97, R98, R132: a granted FRESH_START presence, CREDIT with the
offered count at the grant, PRESENCE, STEP, NOTICE or BCAST goes out as its whole frame; and at idle time 6 the
composed REPLY of an ACTIVE station is begun on an IDLE line, with every octet before its CRC as the decision
composed it. -/
def Obligations.TransmissionsBeginAndCarryTheirOctets : Prop :=
  (∀ (s : State) (tx : Transmission), s.trunk.line = .activeTx → s.trunk.transmission = some tx →
    (tx.phase = .driving → tx.bit = 0 → tx.sent.length < tx.lead.length + tx.length + 2 →
      s.drive = .space) ∧
    (tx.phase = .driving → ∀ o : Octet, tx.sent.getLast? = some o →
      (∀ n : Nat, n < 8 → tx.bit = n + 1 → (s.drive = .released ↔ o.getLsbD n = true)) ∧
      (tx.bit = 9 → s.drive = .released) ∧
      (s.pending = [] → 1 ≤ tx.bit → tx.bit ≤ 9 → ∃ t : State, step s = .next t ∧
        t.trunk.transmission = some { tx with bit := (tx.bit + 1) % 10 })) ∧
    (tx.phase ≠ .driving → s.drive = .released)) ∧
  (∀ s : State, s.trunk.line ≠ .activeTx → s.drive = .released) ∧
  (∀ (s : State) (tx : Transmission), s.trunk.line = .activeTx → s.trunk.transmission = some tx →
    tx.phase = .driving → tx.sent.length ≤ tx.lead.length + tx.length →
    let whole := tx.lead ++ s.memory.readOctets tx.address tx.length
    let body := tx.sent ++ whole.drop tx.sent.length
    exec .transmissionComplete s = .next { s with trunk := { s.trunk with
      transmission := some { tx with
        phase := .complete, bit := 0, sent := body ++ crcOctets (body.drop 1) } } } ∧
    (s.pending = [] → tx.bit = 0 → tx.sent.length < tx.lead.length + tx.length →
      ∃ t : State, step s = .next t ∧ t.trunk.transmission =
        some { tx with bit := 1, sent := tx.sent ++ [whole.getD tx.sent.length 0] })) ∧
  (∀ s : State, s.claim.state = .active → s.trunk.line = .idle →
    let goesOut (f : Frame) : Prop := ∃ (t u : State) (tx : Transmission),
      exec (.slotBegin false) s = .next t ∧ exec .transmissionComplete t = .next u ∧
      u.trunk.transmission = some tx ∧ tx.phase = .complete ∧ tx.sent = encodeFrame f
    let frame (ch : InboxIx) (dst : Option Station) (body : FrameBody) : Frame :=
      { epoch := s.epoch, src := s.own, ch, dst, body }
    (s.arbitrate = some .freshStart → goesOut (frame 0 none (.presence true))) ∧
    (∀ i : InboxIx, s.arbitrate = some (.credit i) → goesOut (frame i none (.credit (Fin.ofNat 64
      (min (min (s.inbox i).free.length (64 - (s.inbox i).arrivals.length)) 63))))) ∧
    (s.arbitrate = some .presence → goesOut (frame 0 none (.presence false))) ∧
    ∀ (q : QueueIx) (c : Context), s.arbitrate = some (.queue q) → s.queue q = .running c →
      (∀ (p : Station) (i : InboxIx), c.pair = some (p, i) → 3 ≤ (s.sendPair p i).blind →
        goesOut (frame i (some p) .step)) ∧
      (∀ p : Station, c.copy.kind = .notice → c.station = some p →
        goesOut (frame 0 (some p) (.notice c.copy.word c.copy.value))) ∧
      (c.copy.kind = .broadcast → goesOut (frame c.copy.inbox none
        (.bcast (s.memory.readOctets c.copy.address.val c.copy.length.val))))) ∧
  ∀ (s : State) (f : Frame), s.claim.state = .active → s.trunk.line = .idle → s.trunk.reply = some f →
    exec .replyStart s = .next { s with
      trunk := { s.trunk with
        line := .activeTx, received := [], receivedCount := 0, reply := none,
        transmission := some
          { item := .reply, lead := f.lead ++ f.body.payload, address := 0, length := 0, sent := [],
            bit := 0, phase := .driving } },
      claim := { s.claim with joinCount := none } }

/-- R2, R16, R30, R33: an activity that begins on an IDLE line makes it ACTIVE_RX, empties the receive store
and stops the join count; that a composed REPLY is discarded at that instant is log entry 13. A mismatch stops
the drive and makes the line ACTIVE_RX, and a deferred LEAVE is then done. -/
def Obligations.ActivityBeginsAndMismatchStopsTheDrive : Prop :=
  (∀ s : State, s.trunk.line = .idle → exec .activityStart s = .next { s with
    trunk := { s.trunk with line := .activeRx, received := [], receivedCount := 0, reply := none },
    claim := { s.claim with joinCount := none } }) ∧
  ∀ (s : State) (tx : Transmission), s.trunk.line = .activeTx → s.trunk.transmission = some tx →
    tx.phase = .driving →
    (s.claim.leaveDeferred = false → exec .transmitMismatch s = .next { s with
      trunk := { s.trunk with
        line := .activeRx, transmission := some { tx with phase := .mismatched } } }) ∧
    (s.claim.leaveDeferred = true → exec .transmitMismatch s = .next { s with
      trunk := { s.trunk with
        line := .activeRx, transmission := some { tx with phase := .mismatched }, reply := none },
      claim := { s.claim with
        state := .offline, joinCount := none, quietTimer := none, leaveDeferred := false } })

/-- R2, R13, R20, R30, R167: the end of invalid activity that answers nothing of this station's own leaves
nothing but the line IDLE with idle time 0, the first 521 octets of the activity and their count, L 31, the
invalid-activity counter one up, and in LISTENING the join count at 0. An activity that is judged no valid
frame, or whose beginning was not seen, ends so however it is reported, and the receive store holds a valid
one too. In UNCONFIGURED every end of an activity, valid or not, changes the line, the idle time and the receive
store alone, and a stuck line's return to idle the line and the idle time: nothing is acted on or counted (R18,
R39, R117). That an end on an IDLE line implies its activity's beginning, which drops a composed REPLY and the
join count, is log entries 7 and 13; that an INVALID_ACTIVITY_END is not judged is log entry 8. -/
def Obligations.InvalidActivitySetsTheReferenceTo31 : Prop :=
  (∀ (line : List Character) (s : State), s.uninvolved → s.trunk.line ≠ .stuck →
    s.settings.isSome = true →
    let octets := (assemble line).octets
    exec (.invalidActivityEnd line) s = .next { s with
      trunk := { s.trunk with
        line := .idle, unseenStart := false, received := octets.take 521,
        receivedCount := octets.length,
        reply := if s.trunk.line = .idle then none else s.trunk.reply },
      claim := { s.claim with
        lastWinner := 31, idleTime := 0,
        joinCount := if s.claim.state = .listening then some 0
          else if s.trunk.line = .idle then none else s.claim.joinCount },
      counters := { s.counters with invalid := min 65535 (s.counters.invalid + 1) } } ∧
    (judge line = none ∨ s.trunk.unseenStart = true →
      exec (.validFrameEnd line) s = exec (.invalidActivityEnd line) s) ∧
    ∃ t : State, exec (.validFrameEnd line) s = .next t ∧ t.trunk.line = .idle ∧
      t.trunk.received = octets.take 521 ∧ t.trunk.receivedCount = octets.length) ∧
  (∀ (line : List Character) (s : State), s.trunk.line ≠ .stuck → s.settings = none →
    s.claim.leaveDeferred = false →
    let octets := (assemble line).octets
    let idle : Prop := s.trunk.line = .idle
    exec (.invalidActivityEnd line) s = .next { s with
      trunk := { s.trunk with
        line := .idle, unseenStart := false, received := octets.take 521,
        receivedCount := octets.length, reply := if idle then none else s.trunk.reply },
      claim := { s.claim with
        idleTime := 0, joinCount := if idle then none else s.claim.joinCount } } ∧
    exec (.validFrameEnd line) s = exec (.invalidActivityEnd line) s) ∧
  ∀ s : State, s.trunk.line = .stuck → s.settings = none →
    exec .returnToIdle s = .next { s with
      trunk := { s.trunk with line := .idle, unseenStart := false },
      claim := { s.claim with idleTime := 0 } }

/-- R84, R157 to R161, R167: an activity that held a claimed item of this station and ends invalid, or as
another station's valid frame, is a collision: the consecutive count rises, stopping at 8, the collisions
counter advances, and an ACTIVE station whose count reaches 8 enters QUIET with the count at 0, the quiet
timer at 4096 and QUIET_ENTERED latched; otherwise the station keeps its state. The invalid end sets L to 31
and is counted; the valid one sets L by its frame and is not. The step of a queue whose frame it was goes on
with no SEQ sent, and nothing else of the queue or of a pair changes. A collided REPLY is counted in the
collisions counter alone; the decision it reports stands. -/
def Obligations.CollidedClaimsLeadToQuiet : Prop :=
  (∀ (line : List Character) (s : State) (tx : Transmission), s.trunk.transmission = some tx →
    s.trunk.line ≠ .stuck → s.trunk.line ≠ .idle → s.claim.leaveDeferred = false →
    s.settings.isSome = true →
    ∃ t, exec (.invalidActivityEnd line) s = .next t ∧ t.claim.lastWinner = 31 ∧ t.claim.idleTime = 0 ∧
      t.trunk.transmission = none ∧
      t.counters.collisions = min 65535 (s.counters.collisions + 1) ∧
      t.counters.invalid = min 65535 (s.counters.invalid + 1) ∧
      (tx.item.claimed = true → s.claim.state = .active → 7 ≤ s.claim.collisionCount →
        t.claim.state = .quiet ∧ t.claim.collisionCount = 0 ∧ t.claim.quietTimer = some 4096 ∧
        t.attention.quietEntered = true ∧ t.trunk.reply = none) ∧
      (tx.item.claimed = true → s.claim.state ≠ .active ∨ s.claim.collisionCount < 7 →
        t.claim.state = s.claim.state ∧ t.claim.collisionCount = min 8 (s.claim.collisionCount + 1) ∧
        t.claim.quietTimer = s.claim.quietTimer ∧
        t.attention.quietEntered = s.attention.quietEntered) ∧
      (tx.item = .reply → t.claim.state = s.claim.state ∧
        t.claim.collisionCount = s.claim.collisionCount ∧ t.inboxes = s.inboxes ∧ t.words = s.words ∧
        t.memory = s.memory ∧ ∀ (p : Station) (i : InboxIx), t.receivePair p i = s.receivePair p i) ∧
      ∀ (q : QueueIx) (g : QueueFrame) (c : Context), tx.item = .queue q g → s.queue q = .running c →
        s.trunk.watch = none → t.queue q = .running { c with seqSent := none } ∧
          (∀ r, r ≠ q → t.queue r = s.queue r) ∧ t.peers = s.peers ∧ t.store = s.store ∧ t.log = s.log) ∧
  ∀ (line : List Character) (f : Frame) (s : State) (tx : Transmission), judge line = some f →
    f.src ≠ s.own → s.canEnd → s.trunk.transmission = some tx → tx.item.claimed = true →
    tx.phase ≠ .complete → s.claim.leaveDeferred = false → s.settings.isSome = true →
    s.claim.state = .active →
    ∃ t, exec (.validFrameEnd line) s = .next t ∧ t.trunk.transmission = none ∧
      t.claim.lastWinner = (if f.body.claimed then f.src else s.claim.lastWinner) ∧
      t.counters.collisions = min 65535 (s.counters.collisions + 1) ∧
      t.counters.invalid = s.counters.invalid ∧ (t.peer f.src).state = .present ∧
      (7 ≤ s.claim.collisionCount → t.claim.state = .quiet ∧ t.claim.collisionCount = 0 ∧
        t.claim.quietTimer = some 4096 ∧ t.attention.quietEntered = true) ∧
      (s.claim.collisionCount < 7 → t.claim.state = .active ∧
        t.claim.collisionCount = s.claim.collisionCount + 1)

/-- R2, R163 to R166: the line found stuck latches LINE_STUCK, sends a configured station to LISTENING without
a join count, and ends a transmission as collided and an open watch as NO_REPLY; before CONFIGURE only the
line state and the receive store change. The return to idle makes the line IDLE with idle time 0, L 31, the
invalid-activity counter one up and, in LISTENING, the join count at 0. -/
def Obligations.StuckLineSendsTheStationListening : Prop :=
  (∀ (line : List Character) (s : State), s.trunk.line ≠ .stuck → s.settings.isSome = true →
    ∃ t, exec (.lineFoundStuck line) s = .next t ∧ t.trunk.line = .stuck ∧ t.attention.lineStuck = true ∧
      t.claim.state = .listening ∧ t.claim.joinCount = none ∧ t.claim.quietTimer = none ∧
      t.claim.leaveDeferred = false ∧ t.claim.lastWinner = s.claim.lastWinner ∧
      t.claim.lastUrgent = s.claim.lastUrgent ∧ t.claim.lastRoutine = s.claim.lastRoutine ∧
      t.trunk.transmission = none ∧ t.trunk.watch = none ∧ t.trunk.reply = none ∧
      t.trunk.received = (assemble line).octets.take 521 ∧
      t.counters.collisions = (if s.trunk.transmission.isSome
        then min 65535 (s.counters.collisions + 1) else s.counters.collisions) ∧
      t.counters.noReply = (if s.trunk.watch.isSome
        then min 65535 (s.counters.noReply + 1) else s.counters.noReply) ∧
      t.counters.invalid = s.counters.invalid) ∧
  (∀ (line : List Character) (s : State), s.trunk.line ≠ .stuck → s.trunk.line ≠ .idle →
    s.settings = none →
    exec (.lineFoundStuck line) s = .next { s with trunk := { s.trunk with
      line := .stuck, received := (assemble line).octets.take 521,
      receivedCount := (assemble line).octets.length } }) ∧
  ∀ s : State, s.trunk.line = .stuck → s.settings.isSome = true →
    exec .returnToIdle s = .next { s with
      trunk := { s.trunk with line := .idle, unseenStart := false },
      claim := { s.claim with
        lastWinner := 31, idleTime := 0,
        joinCount := if s.claim.state = .listening then some 0 else s.claim.joinCount },
      counters := { s.counters with invalid := min 65535 (s.counters.invalid + 1) } }

/-- R26, R31, R32, R35: the join quiet makes a LISTENING station ACTIVE with L 31, and so does the end of
another station's valid claimed frame, with L its source; that frame is not decided. The first entry to ACTIVE
since CONFIGURE makes the FRESH_START presence pending. The end of the quiet timer sends a QUIET station to
LISTENING, its join count running on an IDLE line. -/
def Obligations.JoinQuietAndQuietExpiryMoveTheStation : Prop :=
  (∀ (s : State) (n : Nat), s.claim.state = .listening → s.claim.joinCount = some n →
    exec .joinQuiet s = .next { s with claim := { s.claim with
      state := .active, lastWinner := 31, joinCount := none,
      freshStartPending := s.claim.freshStartPending || s.claim.freshStartOwed,
      freshStartOwed := false } }) ∧
  (∀ (line : List Character) (f : Frame) (s : State), judge line = some f → f.body.claimed = true →
    f.src ≠ s.own → s.canEnd → s.uninvolved → s.settings.isSome = true → s.claim.state = .listening →
    ∃ t, exec (.validFrameEnd line) s = .next t ∧
      t.claim = { s.claim with
        state := .active, lastWinner := f.src, idleTime := 0, joinCount := none,
        freshStartPending := s.claim.freshStartPending || s.claim.freshStartOwed,
        freshStartOwed := false } ∧
      t.trunk.reply = (if s.trunk.line = .idle then none else s.trunk.reply) ∧
      (∀ i : InboxIx, t.inbox i = { s.inbox i with drops := (t.inbox i).drops }) ∧
      t.words = s.words ∧ t.memory = s.memory ∧
      ∀ (p : Station) (i : InboxIx), t.receivePair p i = s.recordHeard f p i) ∧
  ∀ (s : State) (n : Nat), s.claim.state = .quiet → s.claim.quietTimer = some n →
    exec .quietTimerExpiry s = .next { s with claim := { s.claim with
      state := .listening, quietTimer := none,
      joinCount := if s.trunk.line = .idle then some 0 else none } }

/-- R20: L is the SRC of every valid claimed frame that ends in a configured state and keeps its value at a
valid REPLY; it is 31 after every other end of an activity, and no command that ends no activity changes it
but the join quiet and the resets. In UNCONFIGURED it keeps its value whatever ends. -/
def Obligations.LastWinnerFollowsClaimedFrames : Prop :=
  (∀ (line : List Character) (f : Frame) (s : State), judge line = some f → s.canEnd →
    s.settings.isSome = true → ∃ t, exec (.validFrameEnd line) s = .next t ∧
      t.claim.lastWinner = if f.body.claimed then f.src else s.claim.lastWinner) ∧
  (∀ (line : List Character) (s : State), s.settings.isSome = true →
    (s.trunk.line ≠ .stuck →
      ∃ t, exec (.invalidActivityEnd line) s = .next t ∧ t.claim.lastWinner = 31) ∧
    (s.trunk.line = .stuck → ∃ t, exec .returnToIdle s = .next t ∧ t.claim.lastWinner = 31)) ∧
  ∀ (c : Instr) (s t : State), exec c s = .next t →
    (∀ a r l v w, c ≠ .hardReset a r l v w) → (∀ a r l, s.acting c ≠ .restart a r l) → c ≠ .joinQuiet →
    (s.settings = none ∨
      ((∀ l, c ≠ .validFrameEnd l) ∧ (∀ l, c ≠ .invalidActivityEnd l) ∧ c ≠ .returnToIdle)) →
    t.claim.lastWinner = s.claim.lastWinner

/-- R18, R26, R31 to R35, R160, R165, R176: the changes of the station trunk state that a command can make.
That a LISTENING station may enter QUIET within one VALID_FRAME_END, joining before a collided finding of its
own, is log entry 10. -/
def Obligations.TrunkStateChangesOnlyAsTabled : Prop :=
  ∀ (c : Instr) (s t : State), Timers s → exec c s = .next t → t.claim.state = s.claim.state ∨
    match s.acting c with
    | .hardReset .. | .restart .. => t.claim.state = .unconfigured
    | .configure _ => s.claim.state = .unconfigured ∧ t.claim.state = .listening
    | .leave => s.claim.state.onTrunk = true ∧ s.trunk.line ≠ .activeTx ∧ t.claim.state = .offline
    | .join => s.claim.state = .offline ∧ t.claim.state = .listening
    | .joinQuiet => s.claim.state = .listening ∧ t.claim.state = .active
    | .quietTimerExpiry => s.claim.state = .quiet ∧ t.claim.state = .listening
    | .lineFoundStuck _ => s.claim.state ≠ .unconfigured ∧ t.claim.state = .listening
    | .transmitMismatch => s.claim.leaveDeferred = true ∧ t.claim.state = .offline
    | .invalidActivityEnd _ =>
      (s.claim.leaveDeferred = true ∧ t.claim.state = .offline) ∨
      (s.claim.state = .active ∧ s.trunk.transmission.isSome ∧ t.claim.state = .quiet)
    | .validFrameEnd _ =>
      (s.claim.leaveDeferred = true ∧ t.claim.state = .offline) ∨
      (s.claim.state = .listening ∧ t.claim.state = .active) ∨
      (s.trunk.transmission.isSome ∧ t.claim.state = .quiet ∧
        (s.claim.state = .active ∨ s.claim.state = .listening))
    | _ => False

/-! ### Peers -/

/-- R39, R46 to R48, R50, R99: a valid frame of any kind heard from a peer, whomever it is addressed to, makes
its entry PRESENT with the frame's epoch and its silence timer started; a FRESH_START or a changed epoch makes
its receive records FRESH, its blind counts 0 and its hints UNKNOWN, anchors and locks kept, and acts on the
steps under way toward it: they are not unconfirmed, and one that was querying starts its attempts afresh.
Without a restart no queue changes. PEER_CHANGE and PEER_RESTART are latched as the hearing gives, and no other
entry changes. The record and the hint that the frame itself then sets, those of a DATA's and of a CREDIT's own
pair, and the HELD queue that a CREDIT releases, are left to the statements about those kinds; a PRESENCE or
REPLY changes nothing else. -/
def Obligations.HearingAPeerUpdatesItsEntry : Prop :=
  ∀ (line : List Character) (f : Frame) (s : State), judge line = some f → s.canEnd → s.uninvolved →
    s.settings.isSome = true → f.src ≠ s.own →
    let e := s.peer f.src
    let isData : Prop := ∃ seq payload, f.body = .data seq payload
    let isCredit : Prop := ∃ offer, f.body = .credit offer
    let restarted : Prop := f.body = .presence true ∨ ∃ old, e.epoch = some old ∧ old ≠ f.epoch
    ∃ t, exec (.validFrameEnd line) s = .next t ∧ (s.reveals f = true ↔ restarted) ∧
      (t.peer f.src).state = .present ∧ (t.peer f.src).epoch = some f.epoch ∧
      (t.peer f.src).silence = some 0 ∧
      (∀ i : InboxIx,
        (restarted → (¬ (isData ∧ i = f.ch) → t.receivePair f.src i = none) ∧
          (¬ (isCredit ∧ i = f.ch) → t.hint f.src i = none) ∧
          t.sendPair f.src i = { s.sendPair f.src i with blind := 0 }) ∧
        (¬ restarted → (¬ (isData ∧ i = f.ch) → t.receivePair f.src i = s.receivePair f.src i) ∧
          (¬ (isCredit ∧ i = f.ch) → t.hint f.src i = s.hint f.src i) ∧
          t.sendPair f.src i = s.sendPair f.src i)) ∧
      (restarted → ¬ isCredit → ∀ (q : QueueIx) (c : Context), c.station = some f.src → c.outcome = none →
        let c' := { c with
          unconfirmed := false,
          stepAttempts := if c.copy.kind = .message ∧ 3 ≤ (s.sendPair f.src c.copy.inbox).blind then 0
            else c.stepAttempts }
        (s.queue q = .running c → t.queue q = .running c') ∧
        (s.queue q = .held c → t.queue q = .held c') ∧
        (s.queue q = .stopping c → t.queue q = .stopping c')) ∧
      (¬ isCredit → (∀ q : QueueIx, t.queue q = s.queueHeard f (s.queue q)) ∧
        (¬ restarted → t.queues = s.queues)) ∧
      (∀ p : Station, p ≠ f.src → t.peer p = s.peer p) ∧
      (t.attention.peerChange = true ↔ s.attention.peerChange = true ∨ e.state ≠ .present) ∧
      (t.attention.peerRestart = true ↔ s.attention.peerRestart = true ∨ restarted) ∧
      t.peers.presenceTimer = s.peers.presenceTimer ∧ t.peers.presenceDue = s.peers.presenceDue ∧
      t.store = s.store ∧ t.log = s.log ∧
      ((∃ fresh, f.body = .presence fresh) ∨
        (∃ code last fresh offer, f.body = .reply code last fresh offer) →
        t.inboxes = s.inboxes ∧ t.words = s.words ∧ t.counters = s.counters ∧ t.memory = s.memory)

/-- R40, R41, R43, R125: the silence timer's expiry makes a PRESENT peer SILENT, with its records kept, and
latches PEER_CHANGE; the own presence timer's expiry makes PRESENCE due and starts the timer again; the hold
timer's expiry makes a HELD queue RUNNING, its step going on, and the credit hint of its pair UNKNOWN. -/
def Obligations.TimersExpire : Prop :=
  (∀ (p : Station) (n : Nat) (s : State), (s.peer p).state = .present → (s.peer p).silence = some n →
    ∃ t, exec (.silenceTimerExpiry p) s = .next t ∧
      t = { s with peers := t.peers, attention := { s.attention with peerChange := true } } ∧
      t.peer p = { s.peer p with state := .silent, silence := none } ∧
      (∀ r : Station, r ≠ p → t.peer r = s.peer r) ∧
      t.peers.presenceTimer = s.peers.presenceTimer ∧ t.peers.presenceDue = s.peers.presenceDue) ∧
  (∀ (n : Nat) (s : State), s.peers.presenceTimer = some n →
    exec .presenceTimerExpiry s = .next { s with
      peers := { s.peers with presenceTimer := some 0, presenceDue := true } }) ∧
  ∀ (q : QueueIx) (c : Context) (p : Station) (i : InboxIx) (s : State), s.queue q = .held c →
    c.pair = some (p, i) →
    ∃ t, exec (.holdTimerExpiry q) s = .next t ∧ t = { s with queues := t.queues, peers := t.peers } ∧
      t.queue q = .running { c with hold := none } ∧ (∀ r, r ≠ q → t.queue r = s.queue r) ∧
      t.hint p i = none ∧
      (∀ (r : Station) (j : InboxIx), (r, j) ≠ (p, i) → t.hint r j = s.hint r j) ∧
      (∀ r : Station, { t.peer r with hints := (s.peer r).hints } = s.peer r) ∧
      t.peers.presenceTimer = s.peers.presenceTimer ∧ t.peers.presenceDue = s.peers.presenceDue

/-- R41: the state of a peer entry changes only as the rule's table gives, PEER_CHANGE being latched at
every change but a reset's. -/
def Obligations.PeerStatesChangeOnlyAsTabled : Prop :=
  ∀ (c : Instr) (s t : State) (p : Station), exec c s = .next t →
    (∀ a r l v w, c ≠ .hardReset a r l v w) → (∀ a r l, s.acting c ≠ .restart a r l) →
    (t.peer p).state = (s.peer p).state ∨
    (t.attention.peerChange = true ∧
      (((s.peer p).state = .present ∧ (t.peer p).state = .silent ∧ c = .silenceTimerExpiry p) ∨
        ((s.peer p).state ≠ .present ∧ (t.peer p).state = .present ∧ p ≠ s.own ∧
          ∃ l, c = .validFrameEnd l)))

/-- R20, R26, R27, R44, R133, R159: the clean end of the station's own PRESENCE: L is the own address, the
consecutive collision count 0, PRESENCE no longer due and its timer started again; a FRESH_START presence
is no longer pending. The clean end of its CREDIT does the same and empties the inbox's waiter set and clears
its pending flag. -/
def Obligations.OwnCleanPresenceIsHeardByItself : Prop :=
  ∀ (line : List Character) (f : Frame) (s : State) (tx : Transmission), judge line = some f →
    f.body.claimed = true → f.src = s.own → s.trunk.transmission = some tx → tx.phase = .complete →
    s.trunk.line = .activeTx → s.trunk.unseenStart = false → s.trunk.watch = none →
    s.claim.leaveDeferred = false → s.claim.state = .active → s.settings.isSome = true →
    (tx.item = .presence ∨ tx.item = .freshStart ∨ ∃ i, tx.item = .credit i) →
    ∃ t, exec (.validFrameEnd line) s = .next t ∧
      t.claim = { s.claim with
        lastWinner := s.own, idleTime := 0, collisionCount := 0,
        freshStartPending :=
          if tx.item = .freshStart then false else s.claim.freshStartPending } ∧
      t.peers = { s.peers with presenceTimer := some 0, presenceDue := false } ∧
      t.trunk.transmission = none ∧ t.trunk.line = .idle ∧ t.queues = s.queues ∧
      (∀ i : InboxIx, t.inbox i = if tx.item = .credit i
        then { s.inbox i with waiters := 0, announce := false } else s.inbox i) ∧
      t.counters = s.counters ∧ t.memory = s.memory

/-! ### Arriving frames -/

/-- R110 to R116, Tables 6-1 and 6-2: a DATA addressed to an ACTIVE station is decided by the first check
that applies. Every decision but an acceptance leaves packet memory, the receive pair record and the
inboxes as they are, but that a FULL adds the source to the waiter set; each composes a REPLY with the record
after the decision and the offered count. A restart that the frame itself reveals comes first. R18, R109, R137,
R162: a DATA, STEP or NOTICE is not decided by a station that is not ACTIVE, or where it comes from a station
with the own address, or is addressed to another one: nothing is stored, and no REPLY is composed. -/
def Obligations.RefusedDataFramesAreAnswered : Prop :=
  (∀ (line : List Character) (f : Frame) (seq : Seq) (payload : List Octet) (s : State),
    judge line = some f → f.body = .data seq payload → f.dst = some s.own → f.src ≠ s.own →
    s.canEnd → s.uninvolved → s.settings.isSome = true → s.claim.state = .active →
    let i := f.ch
    let set := s.inboxSetting i
    let x := s.inbox i
    let isOpen : Prop := set.enabled = true ∧ set.sources.getLsbD f.src.val = true
    let record : Option Seq :=
      if ∃ old, (s.peer f.src).epoch = some old ∧ old ≠ f.epoch then none else s.receivePair f.src i
    let follows : Prop := record = none ∨ ∃ l, record = some l ∧ seq = l + 1
    ∃ t, exec (.validFrameEnd line) s = .next t ∧
      let refusedAs (code : Octet) : Prop :=
        t.memory = s.memory ∧ t.receivePair f.src i = record ∧
        (∀ j, j ≠ i → t.inbox j = s.inbox j) ∧
        t.trunk.reply = some (s.replyTo f.src i code (record.getD 0) record.isNone x.offer)
      (¬ isOpen → refusedAs 5 ∧ t.inbox i = x) ∧
      (isOpen → record = some seq → refusedAs 2 ∧ t.inbox i = x) ∧
      (isOpen → ¬ follows → record ≠ some seq → refusedAs 6 ∧ t.inbox i = x) ∧
      (isOpen → follows → x.offered = 0 →
        refusedAs 3 ∧ t.inbox i = { x with waiters := x.waiters ||| BitVec.twoPow 32 f.src.val }) ∧
      (isOpen → follows → x.offered ≠ 0 → (∃ b l, x.free = b :: l ∧ b.capacity < payload.length) →
        refusedAs 4 ∧ t.inbox i = x)) ∧
  ∀ (line : List Character) (f : Frame) (s : State), judge line = some f → s.canEnd → s.uninvolved →
    s.settings.isSome = true →
    ((∃ seq payload, f.body = .data seq payload) ∨ f.body = .step ∨ ∃ w v, f.body = .notice w v) →
    (s.claim.state ≠ .active ∨ f.src = s.own ∨ f.dst ≠ some s.own) →
    ∃ t, exec (.validFrameEnd line) s = .next t ∧ t.inboxes = s.inboxes ∧ t.words = s.words ∧
      t.memory = s.memory ∧ t.counters = s.counters ∧
      t.trunk.reply = (if s.trunk.line = .idle then none else s.trunk.reply) ∧
      ∀ (p : Station) (i : InboxIx), t.receivePair p i = s.recordHeard f p i

/-- R108, R114, R115, R131: a DATA that passes every check is stored whole in the head buffer, recorded as
the newest arrival, remembered as the last value of its pair, and answered ACCEPTED; every other octet of
packet memory keeps its value, and a pending announcement is withdrawn if no room is left. -/
def Obligations.AcceptedDataIsStoredWhole : Prop :=
  ∀ (line : List Character) (f : Frame) (seq : Seq) (payload : List Octet) (b : Buffer)
    (rest : List Buffer) (s : State),
    judge line = some f → f.body = .data seq payload → f.dst = some s.own → f.src ≠ s.own →
    s.canEnd → s.uninvolved → s.settings.isSome = true → s.claim.state = .active →
    MemoryForm s → b.inside →
    (s.inboxSetting f.ch).enabled = true → (s.inboxSetting f.ch).sources.getLsbD f.src.val = true →
    (s.receivePair f.src f.ch = none ∨ s.receivePair f.src f.ch = some (seq - 1)) →
    (s.inbox f.ch).free = b :: rest → (s.inbox f.ch).arrivals.length < 64 →
    payload.length ≤ b.capacity →
    ∃ t, exec (.validFrameEnd line) s = .next t ∧
      (∀ a : Nat, t.memory.read a =
        if b.address.val ≤ a ∧ a < b.address.val + payload.length
        then payload.getD (a - b.address.val) 0 else s.memory.read a) ∧
      (t.inbox f.ch).free = rest ∧
      (t.inbox f.ch).arrivals = (s.inbox f.ch).arrivals ++
        [{ source := f.src, kind := .data, length := payload.length, buffer := b, seq := some seq }] ∧
      (t.inbox f.ch).waiters = (s.inbox f.ch).waiters ∧
      (t.inbox f.ch).drops = (s.inbox f.ch).drops ∧
      (t.inbox f.ch).announce =
        ((s.inbox f.ch).announce && decide (rest ≠ [] ∧ (s.inbox f.ch).arrivals.length < 63)) ∧
      (∀ j, j ≠ f.ch → t.inbox j = s.inbox j) ∧
      t.receivePair f.src f.ch = some seq ∧
      t.trunk.reply = some (s.replyTo f.src f.ch 1 seq false (Fin.ofNat 64
        (min (min rest.length (63 - (s.inbox f.ch).arrivals.length)) 63))) ∧
      t.words = s.words ∧ t.store = s.store ∧ t.log = s.log ∧ t.counters = s.counters

/-- R112, R114 (at most once): the same DATA ending a second time, the second end following at once on the
first, is answered DUPLICATE and stores nothing: arrivals, buffers and packet memory are as the first left
them. -/
def Obligations.RepeatedDataIsStoredOnce : Prop :=
  ∀ (line : List Character) (f : Frame) (seq : Seq) (payload : List Octet) (s t u : State),
    judge line = some f → f.body = .data seq payload → f.dst = some s.own → f.src ≠ s.own →
    s.canEnd → s.uninvolved → s.settings.isSome = true → s.claim.state = .active →
    (s.inboxSetting f.ch).enabled = true → (s.inboxSetting f.ch).sources.getLsbD f.src.val = true →
    exec (.validFrameEnd line) s = .next t → t.receivePair f.src f.ch = some seq →
    exec (.validFrameEnd line) t = .next u →
    u.inboxes = t.inboxes ∧ u.memory = t.memory ∧ u.receivePair f.src f.ch = some seq ∧
      u.trunk.reply = some (s.replyTo f.src f.ch 2 seq false (t.inbox f.ch).offer)

/-- R116: a STEP addressed to an ACTIVE station is answered STEP_STATE with the receive pair record and the
offered count, whatever the inbox's configuration, and changes nothing at the receiver. A record that the
frame's own epoch makes FRESH (R46) is reported so. -/
def Obligations.StepQueriesAreAnsweredFromTheRecord : Prop :=
  ∀ (line : List Character) (f : Frame) (s : State), judge line = some f → f.body = .step →
    f.dst = some s.own → f.src ≠ s.own → s.canEnd → s.uninvolved → s.settings.isSome = true →
    s.claim.state = .active →
    let record : Option Seq :=
      if ∃ old, (s.peer f.src).epoch = some old ∧ old ≠ f.epoch then none
      else s.receivePair f.src f.ch
    ∃ t, exec (.validFrameEnd line) s = .next t ∧
      t.trunk.reply = some (s.replyTo f.src f.ch 7 (record.getD 0) record.isNone
        (s.inbox f.ch).offer) ∧
      t.inboxes = s.inboxes ∧ t.memory = s.memory ∧ t.words = s.words ∧ t.counters = s.counters ∧
      t.receivePair f.src f.ch = record

/-- R117: a BCAST that its inbox admits, with room and a head buffer long enough, is accepted by an ACTIVE
station without a SEQ; any other is dropped and counted in the inbox and in the station's counter, in every
configured state. Neither composes a REPLY or changes a receive pair record, but for a restart that the frame
reveals, or the waiter set. One from a station with the own address is neither placed nor counted, in any state
(R38, R109, R162). -/
def Obligations.BroadcastsAreAcceptedOrCounted : Prop :=
  (∀ (line : List Character) (f : Frame) (payload : List Octet) (s : State),
    judge line = some f → f.body = .bcast payload → f.src ≠ s.own → s.canEnd → s.uninvolved →
    s.settings.isSome = true → MemoryForm s →
    let i := f.ch
    let set := s.inboxSetting i
    let x := s.inbox i
    let admitted : Prop := s.claim.state = .active ∧ set.enabled = true ∧ set.broadcast = true ∧
      set.sources.getLsbD f.src.val = true ∧ x.arrivals.length < 64
    let silently (t : State) : Prop :=
      t.trunk.reply = (if s.trunk.line = .idle then none else s.trunk.reply) ∧
      (∀ (p : Station) (j : InboxIx), t.receivePair p j = s.recordHeard f p j) ∧
      (t.inbox i).waiters = x.waiters ∧ ∀ j, j ≠ i → t.inbox j = s.inbox j
    (∀ (b : Buffer) (rest : List Buffer), admitted → x.free = b :: rest → b.inside →
      payload.length ≤ b.capacity →
      ∃ t, exec (.validFrameEnd line) s = .next t ∧ silently t ∧ (t.inbox i).free = rest ∧
        (t.inbox i).arrivals = x.arrivals ++
          [{ source := f.src, kind := .bcast, length := payload.length, buffer := b, seq := none }] ∧
        (t.inbox i).drops = x.drops ∧ t.counters = s.counters ∧
        (∀ a : Nat, t.memory.read a =
          if b.address.val ≤ a ∧ a < b.address.val + payload.length
          then payload.getD (a - b.address.val) 0 else s.memory.read a)) ∧
    ((¬ admitted ∨ x.free = [] ∨ ∃ b rest, x.free = b :: rest ∧ b.capacity < payload.length) →
      ∃ t, exec (.validFrameEnd line) s = .next t ∧ silently t ∧
        t.inbox i = { x with drops := min 65535 (x.drops + 1) } ∧
        t.counters = { s.counters with drops := min 65535 (s.counters.drops + 1) } ∧
        t.memory = s.memory)) ∧
  ∀ (line : List Character) (f : Frame) (payload : List Octet) (s : State),
    judge line = some f → f.body = .bcast payload → f.src = s.own → s.canEnd → s.uninvolved →
    s.settings.isSome = true →
    ∃ t, exec (.validFrameEnd line) s = .next t ∧ t.inboxes = s.inboxes ∧ t.counters = s.counters ∧
      t.memory = s.memory ∧ t.peers = s.peers ∧
      t.trunk.reply = if s.trunk.line = .idle then none else s.trunk.reply

/-- R136 to R139, Tables 8-1 and 8-2: a NOTICE addressed to an ACTIVE station writes an admitting word with
its value and writer and sets unread; it is answered NOTICE_OVERWROTE where the word was unread,
NOTICE_TAKEN where it was not, and NOTICE_CLOSED, the word unchanged, where the word does not admit it. -/
def Obligations.NoticesAreDecidedByTable : Prop :=
  ∀ (line : List Character) (f : Frame) (w : WordIx) (v : Value) (s : State),
    judge line = some f → f.body = .notice w v → f.dst = some s.own → f.src ≠ s.own →
    s.canEnd → s.uninvolved → s.settings.isSome = true → s.claim.state = .active →
    let admits : Prop := s.access w = .opened ∨ s.access w = .restricted f.src
    ∃ t, exec (.validFrameEnd line) s = .next t ∧
      let repliedWith (code : Octet) : Prop :=
        t.trunk.reply = some (s.replyTo f.src 0 code 0 false 0)
      (∀ u, u ≠ w → t.word u = s.word u) ∧ t.inboxes = s.inboxes ∧ t.memory = s.memory ∧
      (¬ admits → t.word w = s.word w ∧ repliedWith 10) ∧
      (admits → t.word w = { value := v, writer := some f.src, unread := true } ∧
        ((s.word w).unread = true → repliedWith 9) ∧ ((s.word w).unread = false → repliedWith 8))

/-- R49, R121, R126: a CREDIT heard in a configured state sets the hint of the announced pair to its OFFER, and
with an OFFER of 1 or more releases the HELD queue that holds the pair's lock; no other hint changes, and no
other queue, but by a restart that the CREDIT itself reveals, which comes first (R48, R99). -/
def Obligations.CreditSetsTheHintAndReleases : Prop :=
  ∀ (line : List Character) (f : Frame) (offer : Offer) (s : State),
    judge line = some f → f.body = .credit offer → f.src ≠ s.own → s.canEnd → s.uninvolved →
    s.settings.isSome = true →
    ∃ t, exec (.validFrameEnd line) s = .next t ∧ t.hint f.src f.ch = some offer ∧
      (∀ (p : Station) (i : InboxIx), (p, i) ≠ (f.src, f.ch) → t.hint p i = s.hintHeard f p i) ∧
      (∀ (p : Station) (i : InboxIx), t.sendPair p i = s.pairHeard f p i) ∧
      (∀ (q : QueueIx) (c : Context), offer ≠ 0 → (s.sendPair f.src f.ch).lock = some q →
        s.queue q = .held c → t.queue q = .running { s.stepHeard f c with hold := none }) ∧
      (∀ q : QueueIx, (offer = 0 ∨ (s.sendPair f.src f.ch).lock ≠ some q ∨ ∀ c, s.queue q ≠ .held c) →
        t.queue q = s.queueHeard f (s.queue q)) ∧
      t.store = s.store ∧ t.inboxes = s.inboxes ∧ t.memory = s.memory

/-! ### Descriptors and fan-out lists -/

/-- R58, R59, Table 11-3: a DESC_WRITE in range to a disarmed descriptor writes its host fields and armed as
the octets give them and clears its part fields; to an armed one it is answered REFUSED_OWNED (0x04), and out
of range REFUSED_ARG (0x03), and neither changes anything. -/
def Obligations.DescWriteFillsADisarmedDescriptor : Prop :=
  ∀ (index kindByte destByte channelByte : Octet) (address length : Half) (value : Value) (link : Octet)
    (s : State), s.listens → s.settings.isSome = true →
    let c : Instr := .descWrite index kindByte destByte channelByte address length value link
    (descWriteInRange index kindByte destByte address link →
      ∀ d : DescIx, index = octet d.val →
        ((s.desc d).armed = true → exec c s = .next (s.answered 0x04 [])) ∧
        ((s.desc d).armed = false → ∃ h : HostFields,
          exec c s = .next ((s.setDesc d
            { host := h, armed := kindByte.getLsbD 5, holder := none, outcome := none, attempts := 0,
              late := 0, perDest := none }).answered 0x00 []) ∧
          h.kind = (match kindByte.toNat % 4 with
            | 0 => .message
            | 1 => .broadcast
            | _ => .notice) ∧
          h.destination = (match kindByte.toNat / 4 % 4 with
            | 0 => .station (Fin.ofNat 32 destByte.toNat)
            | 1 => .list (Fin.ofNat 16 destByte.toNat)
            | _ => .all) ∧
          h.inbox.val = channelByte.toNat % 8 ∧ h.word.val = channelByte.toNat / 16 % 4 ∧
          h.address.val = address.toNat ∧ h.length.val = length.toNat % 1024 ∧ h.value = value ∧
          h.link = (if link.toNat = 255 then none else some (Fin.ofNat 128 link.toNat)) ∧
          h.notify = kindByte.getLsbD 4)) ∧
    (¬ descWriteInRange index kindByte destByte address link → exec c s = .next (s.answered 0x03 []))

/-- R60, R61: DESC_DISARM hands back an armed descriptor that has no holder and at which no queue waits, and
is refused otherwise; LIST_WRITE in range replaces the list whole, and is refused otherwise. A refusal changes
nothing. -/
def Obligations.DisarmAndListWriteActOnTheStore : Prop :=
  (∀ (d : DescIx) (s : State), s.listens → s.settings.isSome = true →
    let c : Instr := .descDisarm (octet d.val)
    let owned : Prop := (s.desc d).holder.isSome = true ∨ ∃ q : QueueIx, s.queue q = .waitingAt d
    ((s.desc d).armed = false → exec c s = .next (s.answered 0x02 [])) ∧
    ((s.desc d).armed = true → owned → exec c s = .next (s.answered 0x04 [])) ∧
    ((s.desc d).armed = true → ¬ owned →
      exec c s = .next ((s.setDesc d { s.desc d with armed := false }).answered 0x00 []))) ∧
  (∀ (index : Octet) (s : State), s.listens → s.settings.isSome = true → 128 ≤ index.toNat →
    exec (.descDisarm index) s = .next (s.answered 0x03 [])) ∧
  ∀ (list count : Octet) (stations : List Octet) (s : State), s.listens → s.settings.isSome = true →
    (Instr.listWrite list count stations).wellFormed = true →
    (s.listWriteInRange list count stations → ∃ (n : ListIx) (l : List Station),
      list = octet n.val ∧ stations = l.map (fun p => octet p.val) ∧
      exec (.listWrite list count stations) s = .next ((s.setFanout n l).answered 0x00 [])) ∧
    (¬ s.listWriteInRange list count stations →
      exec (.listWrite list count stations) s = .next (s.answered 0x03 []))

/-! ### Send queues -/

/-- R62, R63, R65, R66, R68, R78, R79, R81, R96: a queue that takes an available, well-formed descriptor holds
it, with a copy of its host fields and a new context. The step of a MESSAGE begins toward the first destination
that is not SILENT, those before it being decided PEER_SILENT: it takes the free lock of the pair, and is HELD
with the hold timer started where the credit hint is 0, or awaits a lock that is taken. The step of a NOTICE or
BROADCAST takes no lock. With every destination SILENT the message settles at once, PEER_SILENT, or UNDELIVERED
for a list (R70). Neither the host fields are touched, nor any other descriptor, queue or pair. -/
def Obligations.StartAndResumeTakeAnAvailableMessage : Prop :=
  ∀ (cmd : Instr) (q : QueueIx) (d : DescIx) (s : State), s.listens → s.settings.isSome = true →
    s.canTake cmd q d → s.isAvailable d → ¬ s.malformed (s.desc d).host →
    let x := (s.desc d).host
    let i := x.inbox
    let holds (t : State) : Prop := exec cmd s = .next (t.answered 0x00 []) ∧
      t = { s with store := t.store, queues := t.queues,
                   peers := { s.peers with entries := t.peers.entries } } ∧
      t.store.lists = s.store.lists ∧
      t.desc d = { s.desc d with holder := some q } ∧ (∀ e, e ≠ d → t.desc e = s.desc e) ∧
      (∀ r, r ≠ q → t.queue r = s.queue r)
    (∀ (p : Station) (skipped later : List Station), s.hasMessage d p skipped later →
      let c := s.firstContext d skipped.length later.length
      ∃ t : State, holds t ∧
        ((s.sendPair p i).lock ≠ none →
          t.queue q = .running { c with lock := .awaited } ∧ t.peers = s.peers) ∧
        ((s.sendPair p i).lock = none →
          t.sendPair p i = { s.sendPair p i with lock := some q } ∧
          (s.hint p i = some 0 →
            t.queue q = .held { c with lock := .taken, hold := some s.holdTicks }) ∧
          (s.hint p i ≠ some 0 → t.queue q = .running { c with lock := .taken }) ∧
          (∀ (r : Station) (j : InboxIx), (r, j) ≠ (p, i) → t.sendPair r j = s.sendPair r j) ∧
          ∀ r : Station, { t.peer r with send := (s.peer r).send } = s.peer r)) ∧
    (x.kind = .broadcast ∨
      (x.kind = .notice ∧ ∃ p, x.destination = .station p ∧ (s.peer p).state ≠ .silent) →
      ∃ t : State, holds t ∧ t.queue q = .running (s.firstContext d 0 0) ∧ t.peers = s.peers) ∧
    (x.link = none → s.log.length < 64 → x.kind ≠ .broadcast →
      (∀ p : Station, x.destination = .station p → (s.peer p).state = .silent →
        ∃ t : State, exec cmd s = .next (t.answered 0x00 []) ∧ s.settledAtOnce t q d .peerSilent none) ∧
      ∀ n : ListIx, x.destination = .list n → (∀ p ∈ s.fanout n, (s.peer p).state = .silent) →
        ∃ t : State, exec cmd s = .next (t.answered 0x00 []) ∧ s.settledAtOnce t q d .undelivered
          (some ((s.fanout n).map fun p => (p, .peerSilent))))

/-- R62 to R66, R180: a queue that finds the descriptor unavailable waits at it, latching QUEUE_IDLE when it
begins to wait; a queue that waits after END, or at a descriptor still unavailable, goes on waiting, and one
that waits after a descriptor whose link names an unavailable one then waits at that; a malformed descriptor
settles MALFORMED at once. QUEUE_START of a queue that is not STOPPED and QUEUE_RESUME of one that is not
WAITING are answered REFUSED_STATE (0x02), and a number out of range REFUSED_ARG (0x03). -/
def Obligations.QueueStartAndResumeActByState : Prop :=
  (∀ (q : QueueIx) (d : DescIx) (s : State), s.listens → s.settings.isSome = true →
    let start : Instr := .queueStart (octet q.val) (octet d.val)
    let resume : Instr := .queueResume (octet q.val)
    (s.queue q = .stopped → ¬ s.isAvailable d → ∃ t : State, exec start s = .next (t.answered 0x00 []) ∧
      t = { s with queues := t.queues, attention := t.attention } ∧ t.queue q = .waitingAt d ∧
      (∀ r, r ≠ q → t.queue r = s.queue r) ∧
      t.attention = { s.attention with queueIdle := t.attention.queueIdle } ∧
      t.attention.queueIdle[q] = true ∧
      (∀ r : QueueIx, r ≠ q → t.attention.queueIdle[r] = s.attention.queueIdle[r])) ∧
    (s.queue q ≠ .stopped → exec start s = .next (s.answered 0x02 [])) ∧
    (s.queue q = .waitingAt d → ¬ s.isAvailable d → exec resume s = .next (s.answered 0x00 [])) ∧
    (s.queue q = .waitingAfter d → (s.desc d).host.link = none →
      exec resume s = .next (s.answered 0x00 [])) ∧
    (∀ e : DescIx, s.queue q = .waitingAfter e → (s.desc e).host.link = some d → ¬ s.isAvailable d →
      exec resume s = .next ((s.setQueue q (.waitingAt d)).answered 0x00 [])) ∧
    ((∀ e, s.queue q ≠ .waitingAt e ∧ s.queue q ≠ .waitingAfter e) →
      exec resume s = .next (s.answered 0x02 []))) ∧
  (∀ (cmd : Instr) (q : QueueIx) (d : DescIx) (s : State), s.listens → s.settings.isSome = true →
    s.canTake cmd q d → s.isAvailable d → s.malformed (s.desc d).host → (s.desc d).host.link = none →
    s.log.length < 64 →
    ∃ t : State, exec cmd s = .next (t.answered 0x00 []) ∧ s.settledAtOnce t q d .malformed none) ∧
  ∀ (a b : Octet) (s : State), s.listens → s.settings.isSome = true →
    (4 ≤ a.toNat ∨ 128 ≤ b.toNat → exec (.queueStart a b) s = .next (s.answered 0x03 [])) ∧
    (4 ≤ a.toNat → exec (.queueResume a) s = .next (s.answered 0x03 []) ∧
      exec (.queueStop a) s = .next (s.answered 0x03 []))

/-- R73, R74, R75, R101, R102: QUEUE_STOP is answered DONE in every state of the queue. STOPPED and STOPPING
stay; a WAITING queue is STOPPED; one that waits for room in the log, or has a frame on the trunk, is STOPPING
with its context kept; otherwise the step is decided STOPPED, and a message to one station is handed back at
once, with its record, the log having room. A STOPPING queue whose frame ends its exchange is STOPPED and its
message handed back: a reply still decides DELIVERED, TOO_LONG or CLOSED, an attempt over the retry limit
NO_REPLY, and anything else, a collided frame among it, STOPPED. -/
def Obligations.QueueStopActsByState : Prop :=
  (∀ (q : QueueIx) (s : State), s.listens → s.settings.isSome = true →
    let stop : Instr := .queueStop (octet q.val)
    (s.queue q = .stopped ∨ (∃ c, s.queue q = .stopping c) →
      exec stop s = .next (s.answered 0x00 [])) ∧
    (∀ d, s.queue q = .waitingAt d ∨ s.queue q = .waitingAfter d →
      exec stop s = .next ((s.setQueue q .stopped).answered 0x00 [])) ∧
    (∀ c, s.queue q = .blockedLog c ∨ ((s.queue q = .running c ∨ s.queue q = .held c) ∧ s.onTrunk q) →
      exec stop s = .next ((s.setQueue q (.stopping c)).answered 0x00 [])) ∧
    ∀ (c : Context) (p : Station), s.queue q = .running c ∨ s.queue q = .held c → ¬ s.onTrunk q →
      c.toOne p → s.log.length < 64 →
      ∃ t : State, exec stop s = .next (t.answered 0x00 []) ∧ t.queue q = .stopped ∧
        t.desc c.head = (s.desc c.head).handedBack c .stopped c.late ∧
        (∀ d, d ≠ c.head → t.desc d = s.desc d) ∧
        t.log = s.log ++ [{ queue := q, descriptor := c.head, outcome := .stopped,
                            attempts := c.attempts, late := c.late, perDest := none }] ∧
        (∀ (r : Station) (j : InboxIx), (t.sendPair r j).anchor = (s.sendPair r j).anchor ∧
          (t.sendPair r j).blind = if c.unconfirmed = true ∧ c.pair = some (r, j)
            then min 3 ((s.sendPair r j).blind + 1) else (s.sendPair r j).blind) ∧
        t.attention = s.attention ∧ t.memory = s.memory ∧ t.inboxes = s.inboxes ∧ t.trunk = s.trunk) ∧
  ∀ (q : QueueIx) (c : Context) (p : Station) (line : List Character) (s : State), s.queue q = .stopping c →
    c.toOne p → s.log.length < 64 → s.settings.isSome = true → s.claim.leaveDeferred = false →
    let ended (t : State) (o : Outcome) (late : Nat) : Prop := t.queue q = .stopped ∧
      t.desc c.head = (s.desc c.head).handedBack c o late ∧ (∀ d, d ≠ c.head → t.desc d = s.desc d)
    (∀ w : Watch, s.trunk.watch = some w → w.queue = q → s.trunk.transmission = none →
      (∀ (f : Frame) (code : Octet) (last : Seq) (fresh : Bool) (offer : Offer) (i : InboxIx),
        judge line = some f → f.body = .reply code last fresh offer → f.src = p → f.dst = some s.own →
        p ≠ s.own → s.canEnd → w.station = p → c.pair = some (p, i) →
        ((w.frame = .data ∧ 1 ≤ code.toNat ∧ code.toNat ≤ 6) ∨ (w.frame = .step ∧ code.toNat = 7)) →
        ∃ t, exec (.validFrameEnd line) s = .next t ∧ ended t
          (match code.toNat with
            | 1 | 2 => .delivered
            | 4 => .tooLong
            | 5 => .closed
            | _ => .stopped)
          (min 3 (c.late + if code.toNat ≤ 2 then (s.pairHeard f p i).blind
            else (s.pairHeard f p i).found last fresh))) ∧
      (s.trunk.line = .idle → ∃ t, exec .replyWatchTimeout s = .next t ∧
        ended t (if s.retryLimit < c.stepAttempts then .noReply else .stopped) c.late ∧
        ∀ i : InboxIx, c.pair = some (p, i) → (t.sendPair p i).blind =
          if c.unconfirmed = true ∨ w.frame = .data then min 3 ((s.sendPair p i).blind + 1)
          else (s.sendPair p i).blind)) ∧
    ∀ (tx : Transmission) (g : QueueFrame), s.trunk.transmission = some tx → tx.item = .queue q g →
      s.trunk.watch = none → s.trunk.line ≠ .stuck →
      ∃ t, exec (.invalidActivityEnd line) s = .next t ∧ ended t .stopped c.late

/-! ### Attempts and replies -/

/-- R17, R49, R84, R85, R87, R90, R93, Tables 1-4 and 5-1: the reply watch takes the matching REPLY and closes,
for a running queue and a stopping one; the record of the step's pair moves as the code gives, and with every
code but STEP_STATE the reply's OFFER becomes its credit hint (log entry 22 for a FULL with another OFFER than
0): ACCEPTED and DUPLICATE move the anchor to the SEQ sent, every other code re-anchors (R86). No other
record's anchor, blind count or hint changes, but by a restart that the reply itself reveals, which comes
first (R48). -/
def Obligations.RepliesMoveThePairRecord : Prop :=
  ∀ (line : List Character) (f : Frame) (code : Octet) (last : Seq) (fresh : Bool) (offer : Offer)
    (q : QueueIx) (c : Context) (p : Station) (i : InboxIx) (w : Watch) (s : State),
    judge line = some f → f.body = .reply code last fresh offer → f.src = p → f.dst = some s.own →
    p ≠ s.own → s.canEnd → s.settings.isSome = true → s.trunk.transmission = none →
    s.claim.leaveDeferred = false → s.trunk.watch = some w → w.queue = q → w.station = p →
    ((w.frame = .data ∧ 1 ≤ code.toNat ∧ code.toNat ≤ 6) ∨ (w.frame = .step ∧ code.toNat = 7)) →
    (s.queue q = .running c ∨ s.queue q = .stopping c) → c.pair = some (p, i) → c.outcome = none →
    ∃ t : State, exec (.validFrameEnd line) s = .next t ∧ t.trunk.watch = none ∧
      (t.sendPair p i).blind = 0 ∧
      (t.sendPair p i).anchor =
        (if code.toNat ≤ 2 then c.seqSent.getD (s.sendPair p i).anchor
          else if fresh then (s.sendPair p i).anchor else last) ∧
      t.hint p i = (if code.toNat = 7 then s.hintHeard f p i else some offer) ∧
      (∀ (r : Station) (j : InboxIx), (r, j) ≠ (p, i) → t.hint r j = s.hintHeard f r j ∧
        (t.sendPair r j).anchor = (s.sendPair r j).anchor ∧
        (t.sendPair r j).blind = (s.pairHeard f r j).blind) ∧
      t.memory = s.memory ∧ t.inboxes = s.inboxes ∧ t.counters = s.counters

/-- R86, R88 to R90, R93 to R95, R123, R124: OUT_OF_STEP, STEP_STATE and FULL leave the message in flight, with
the late count up by the blind messages found delivered, at most to 3, and the step attempts at 0. After FULL
the FULL count has risen, and the queue is HELD with the hold timer started unless patience is spent; after the
others the queue goes on, or is HELD on a credit hint of 0. A FULL that spends patience, a TOO_LONG and a
CLOSED decide the step REFUSED_FULL, TOO_LONG and CLOSED, and a message to one station is handed back so, with
its record, the log having room. A restart that the reply reveals comes first (R48, R99). -/
def Obligations.RepliesThatLeaveTheStepUnderWay : Prop :=
  ∀ (line : List Character) (f : Frame) (code : Octet) (last : Seq) (fresh : Bool) (offer : Offer)
    (q : QueueIx) (c : Context) (p : Station) (i : InboxIx) (w : Watch) (s : State),
    judge line = some f → f.body = .reply code last fresh offer → f.src = p → f.dst = some s.own →
    p ≠ s.own → s.canEnd → s.settings.isSome = true → s.trunk.transmission = none →
    s.claim.leaveDeferred = false → s.trunk.watch = some w → w.queue = q → w.station = p →
    s.queue q = .running c → c.pair = some (p, i) →
    let late := min 3 (c.late + (s.pairHeard f p i).found last fresh)
    let c' := { c with late := late, unconfirmed := false, seqSent := none, stepAttempts := 0 }
    let full := { c' with fullCount := min 255 (c.fullCount + 1) }
    let spent : Prop := 1 ≤ s.patience ∧ s.patience ≤ full.fullCount
    ∃ t : State, exec (.validFrameEnd line) s = .next t ∧
      (w.frame = .data → code.toNat = 6 → t.queue q =
        if offer = 0 then .held { c' with hold := some s.holdTicks } else .running c') ∧
      (w.frame = .step → code.toNat = 7 → t.queue q =
        if s.hintHeard f p i = some 0 then .held { c' with hold := some s.holdTicks } else .running c') ∧
      (w.frame = .data → code.toNat = 3 → ¬ spent →
        t.queue q = .held { full with hold := some s.holdTicks }) ∧
      ∀ o : Outcome, w.frame = .data →
        ((code.toNat = 3 ∧ spent ∧ o = .refusedFull) ∨ (code.toNat = 4 ∧ o = .tooLong) ∨
          (code.toNat = 5 ∧ o = .closed)) →
        c.toOne p → s.log.length < 64 →
        t.desc c.head = (s.desc c.head).handedBack c o late ∧
        t.log.take (s.log.length + 1) = s.log ++
          [{ queue := q, descriptor := c.head, outcome := o, attempts := c.attempts, late := late,
             perDest := none }]

/-- R58, R71, R72, R87, R94, R95, R145, R146: a MESSAGE to one station that its reply shows delivered is settled
and handed back: the outcome DELIVERED, the attempts, the late count risen by the blind messages that were
delivered with it; its record is appended exactly where one is required, the log having room, and with none the
queue waits for it (BLOCKED_LOG), the descriptor untouched. The queue then reads the descriptor's link: with END
it waits after the descriptor, and with one that names an unavailable descriptor at that one, latching
QUEUE_IDLE; an available one it takes at the same instant, its first step beginning, QUEUE_IDLE as it was (R63,
R66, R72, R79). The pair's lock passes to the first queue after it that awaits it, which reads the credit hint,
and is free where none does (R80, R81). R68, R70, R96: a fan-out MESSAGE whose step a reply decides goes on with
the step toward its next destination, and after its last is handed back DELIVERED, PARTIAL or UNDELIVERED, with
the list of its destinations' outcomes. -/
def Obligations.DeliveredMessageIsHandedBack : Prop :=
  ∀ (line : List Character) (f : Frame) (code : Octet) (last : Seq) (fresh : Bool) (offer : Offer)
    (q : QueueIx) (c : Context) (p : Station) (i : InboxIx) (s : State),
    judge line = some f → f.body = .reply code last fresh offer → f.src = p →
    f.dst = some s.own → p ≠ s.own → s.canEnd → s.settings.isSome = true →
    s.trunk.transmission = none → s.claim.leaveDeferred = false →
    s.trunk.watch = some { queue := q, frame := .data, station := p } → s.queue q = .running c →
    c.pair = some (p, i) → c.outcome = none →
    let delivered : Prop := code = 1 ∨ code = 2
    let late := min 3 (c.late + if code.toNat ≤ 2 then (s.pairHeard f p i).blind
      else (s.pairHeard f p i).found last fresh)
    let required : Prop := c.copy.notify = true ∨ (s.queueSetting q).logAll = true ∨ 0 < late
    ∃ t : State, exec (.validFrameEnd line) s = .next t ∧
      (delivered → c.toOne p → c.lock = .taken → s.log.length < 64 → (s.desc c.head).host.link = none →
        t.desc c.head = (s.desc c.head).handedBack c .delivered late ∧
        (∀ d, d ≠ c.head → t.desc d = s.desc d) ∧
        (required → t.log = s.log ++ [{ queue := q, descriptor := c.head, outcome := .delivered,
                                        attempts := c.attempts, late := late, perDest := none }]) ∧
        (¬ required → t.log = s.log) ∧
        t.queue q = .waitingAfter c.head ∧ t.attention.queueIdle[q] = true ∧
        ((∀ r : QueueIx, r ≠ q → (s.queue r).awaits p i = none) →
          (t.sendPair p i).lock = none ∧ ∀ r : QueueIx, r ≠ q → t.queue r = s.queueHeard f (s.queue r)) ∧
        ∀ (n : Nat) (x : Context), 1 ≤ n → n ≤ 3 → (s.queue (q + Fin.ofNat 4 n)).awaits p i = some x →
          (∀ m, 1 ≤ m → m < n → (s.queue (q + Fin.ofNat 4 m)).awaits p i = none) →
          (t.sendPair p i).lock = some (q + Fin.ofNat 4 n) ∧
          t.queue (q + Fin.ofNat 4 n) = (if offer = 0
            then .held { s.stepHeard f x with lock := .taken, hold := some s.holdTicks }
            else .running { s.stepHeard f x with lock := .taken })) ∧
      (delivered → c.toOne p → required → 64 ≤ s.log.length → t.log = s.log ∧ t.store = s.store ∧
        ∃ x, t.queue q = .blockedLog x ∧ x.head = c.head ∧ x.outcome = some .delivered ∧
          x.attempts = c.attempts ∧ x.late = late ∧ x.lock = .none) ∧
      (∀ e : DescIx, delivered → c.toOne p → c.lock = .taken → s.log.length < 64 →
        (s.desc c.head).host.link = some e →
        let x := (s.desc e).host
        t.desc c.head = (s.desc c.head).handedBack c .delivered late ∧
        (e = c.head ∨ ¬ s.isAvailable e → t.queue q = .waitingAt e ∧ t.attention.queueIdle[q] = true ∧
          ∀ d, d ≠ c.head → t.desc d = s.desc d) ∧
        (e ≠ c.head → s.isAvailable e → ¬ s.malformed x →
          (∀ (r : Station) (skipped later : List Station), s.hasMessage e r skipped later →
            p ∉ skipped →
            let next := s.firstContext e skipped.length later.length
            let passed : Prop := ∃ n : QueueIx, n ≠ q ∧ (s.queue n).awaits p i ≠ none
            t.desc e = { s.desc e with holder := some q } ∧
            (∀ d, d ≠ c.head → d ≠ e → t.desc d = s.desc d) ∧
            t.attention.queueIdle = s.attention.queueIdle ∧ t.queue q =
              if (if (r, x.inbox) = (p, i) then passed else (s.sendPair r x.inbox).lock ≠ none)
                then .running { next with lock := .awaited }
              else if (if (r, x.inbox) = (p, i) then some offer else s.hintHeard f r x.inbox) = some 0
                then .held { next with lock := .taken, hold := some s.holdTicks }
              else .running { next with lock := .taken }) ∧
          (x.kind = .broadcast ∨
            (x.kind = .notice ∧ ∃ r, x.destination = .station r ∧ (r = p ∨ (s.peer r).state ≠ .silent)) →
            t.desc e = { s.desc e with holder := some q } ∧
            t.attention.queueIdle = s.attention.queueIdle ∧
            t.queue q = .running (s.firstContext e 0 0)))) ∧
      ∀ (l : List Station) (o : Outcome), c.destinations = .list l → c.outcomes.length = l.length →
        ((delivered ∧ o = .delivered) ∨ (code = 4 ∧ o = .tooLong) ∨ (code = 5 ∧ o = .closed)) →
        let outcomes := c.outcomes.set (c.current - 1) o
        (c.current = l.length → s.log.length < 64 →
          t.desc c.head = { s.desc c.head with
            armed := false, holder := none, outcome := some (fanoutOutcome outcomes),
            attempts := c.attempts, late := late, perDest := some (l.zip outcomes) }) ∧
        ∀ r : Station, 1 ≤ c.current → l[c.current]? = some r → r ≠ p → (s.peer r).state ≠ .silent →
          let next := { c with
            current := c.current + 1, outcomes := outcomes, late := late, stepAttempts := 0,
            fullCount := 0, hold := none, lock := .none, unconfirmed := false, seqSent := none }
          t.store = s.store ∧ t.log = s.log ∧ t.queue q =
            if (s.sendPair r i).lock ≠ none then .running { next with lock := .awaited }
            else if s.hint r i = some 0 then .held { next with lock := .taken, hold := some s.holdTicks }
            else .running { next with lock := .taken }

/-- R17, R84, R91, R92, R95, R98, R164, R167: a reply watch that ends without a fitting reply, because no
activity began, invalid activity or any other valid frame ended, or the line was found stuck, closes with
NO_REPLY, and the counter advances. Within the retry limit the step goes on, unconfirmed if a DATA was sent; a
MESSAGE step is then HELD on a credit hint of 0 (for a STEP, log entry 14). Past it the step is decided
NO_REPLY, and an unconfirmed MESSAGE step's pair is blind by one more; a message to one station, a NOTICE among
it, or a fan-out MESSAGE at its last destination, is handed back so (R70), and a fan-out MESSAGE before it goes
on with the step toward its next destination (R68). No hint, no anchor and no other pair's blind count changes.
A restart that the other frame reveals, and the hint that a CREDIT announces, come first (R48, R49, R99). -/
def Obligations.UnansweredAttemptsAreRetriedThenGivenUp : Prop :=
  ∀ (q : QueueIx) (c : Context) (w : Watch) (s : State),
    s.settings.isSome = true → s.trunk.watch = some w → w.queue = q → s.queue q = .running c →
    c.outcome = none →
    let unanswered (t : State) (c : Context) (hint : Station → InboxIx → Option Offer)
        (blind : Station → InboxIx → Nat) : Prop :=
      let exceeded : Prop := s.retryLimit < c.stepAttempts
      let unconfirmed := c.unconfirmed || decide (w.frame = .data)
      let c' := { c with unconfirmed := unconfirmed, seqSent := none }
      let outcomes := c.outcomes.set (c.current - 1) .noReply
      t.trunk.watch = none ∧ t.counters.noReply = min 65535 (s.counters.noReply + 1) ∧
      (∀ (r : Station) (j : InboxIx), (t.sendPair r j).anchor = (s.sendPair r j).anchor ∧
        t.hint r j = hint r j ∧ (c.pair ≠ some (r, j) → (t.sendPair r j).blind = blind r j)) ∧
      (c.copy.kind = .notice → ¬ exceeded → t.queue q = .running c') ∧
      (∀ p : Station, exceeded → c.toOne p → s.log.length < 64 →
        t.desc c.head = (s.desc c.head).handedBack c .noReply c.late ∧
        t.log.take (s.log.length + 1) = s.log ++
          [{ queue := q, descriptor := c.head, outcome := .noReply, attempts := c.attempts,
             late := c.late, perDest := none }]) ∧
      ∀ (p : Station) (i : InboxIx), c.pair = some (p, i) →
        (¬ exceeded → (t.sendPair p i).blind = blind p i ∧ t.queue q =
          if hint p i = some 0 then .held { c' with hold := some s.holdTicks } else .running c') ∧
        (exceeded → (t.sendPair p i).blind = if unconfirmed then min 3 (blind p i + 1) else blind p i) ∧
        ∀ l : List Station, exceeded → c.destinations = .list l → c.outcomes.length = l.length →
          (c.current = l.length → s.log.length < 64 → t.desc c.head = { s.desc c.head with
            armed := false, holder := none, outcome := some (fanoutOutcome outcomes),
            attempts := c.attempts, late := c.late, perDest := some (l.zip outcomes) }) ∧
          ∀ r : Station, 1 ≤ c.current → l[c.current]? = some r → r ≠ p → (s.peer r).state ≠ .silent →
            let next := { c with
              current := c.current + 1, outcomes := outcomes, stepAttempts := 0, fullCount := 0,
              hold := none, lock := .none, unconfirmed := false, seqSent := none }
            t.store = s.store ∧ t.log = s.log ∧ t.queue q =
              if (s.sendPair r i).lock ≠ none then .running { next with lock := .awaited }
              else if hint r i = some 0 then .held { next with lock := .taken, hold := some s.holdTicks }
              else .running { next with lock := .taken }
    let asBefore (t : State) : Prop :=
      unanswered t c (fun r j => s.hint r j) fun r j => (s.sendPair r j).blind
    (s.trunk.line = .idle → ∃ t : State, exec .replyWatchTimeout s = .next t ∧ asBefore t ∧
      t.trunk = { s.trunk with watch := none } ∧
      t.counters = { s.counters with noReply := t.counters.noReply }) ∧
    ∀ line : List Character, s.trunk.transmission = none →
      (s.trunk.line ≠ .stuck → ∃ t : State, exec (.lineFoundStuck line) s = .next t ∧ asBefore t) ∧
      (s.claim.leaveDeferred = false → s.trunk.line ≠ .stuck →
        ∃ t : State, exec (.invalidActivityEnd line) s = .next t ∧ asBefore t) ∧
      ∀ f : Frame, s.claim.leaveDeferred = false → judge line = some f → s.canEnd →
        (∀ code last fresh offer, f.body = .reply code last fresh offer → f.src = w.station →
          f.dst = some s.own → ¬ ((w.frame = .data ∧ 1 ≤ code.toNat ∧ code.toNat ≤ 6) ∨
            (w.frame = .step ∧ code.toNat = 7) ∨
            (w.frame = .notice ∧ 8 ≤ code.toNat ∧ code.toNat ≤ 10))) →
        let hint (r : Station) (j : InboxIx) : Option Offer :=
          match f.body with
          | .credit offer =>
            if f.src = r ∧ f.ch = j ∧ r ≠ s.own then some offer else s.hintHeard f r j
          | _ => s.hintHeard f r j
        ∃ t : State, exec (.validFrameEnd line) s = .next t ∧
          unanswered t (s.stepHeard f c) hint fun r j => (s.pairHeard f r j).blind

/-- R17, R44, R84, R97, R98, R101: the clean end of a DATA, STEP, NOTICE or BCAST clears PRESENCE due and
starts the own presence timer again; that of a DATA, STEP or NOTICE counts an attempt and opens the reply watch
on the step's station, no peer's entry changing; that of a BCAST decides the step SENT with attempts 1. The
REPLY to a NOTICE decides it TAKEN, OVERWROTE or CLOSED by its code, and the message is handed back with that
outcome, the log having room: so for a running queue and for a stopping one. -/
def Obligations.CleanEndsAndNoticeRepliesDecideSteps : Prop :=
  (∀ (line : List Character) (f : Frame) (q : QueueIx) (c : Context) (g : QueueFrame) (tx : Transmission)
    (stopping : Bool) (s : State),
    judge line = some f → f.src = s.own → s.trunk.transmission = some tx →
    tx.phase = .complete → tx.item = .queue q g → s.trunk.line = .activeTx →
    s.trunk.unseenStart = false → s.trunk.watch = none → s.claim.leaveDeferred = false →
    s.settings.isSome = true → s.queue q = (if stopping then .stopping c else .running c) →
    c.outcome = none → s.log.length < 64 →
    ∃ t : State, exec (.validFrameEnd line) s = .next t ∧ t.claim.collisionCount = 0 ∧
      t.trunk.transmission = none ∧
      (f.body.claimed = true → t.peers.presenceTimer = some 0 ∧ t.peers.presenceDue = false ∧
        (g ≠ .bcast → t.peers.entries = s.peers.entries)) ∧
      (∀ p : Station, g ≠ .bcast → c.station = some p →
        let c' := { c with stepAttempts := c.stepAttempts + 1, attempts := min 255 (c.attempts + 1) }
        t.queue q = (if stopping then .stopping c' else .running c') ∧
        t.trunk.watch = some { queue := q, frame := g, station := p }) ∧
      (g = .bcast → c.copy.kind = .broadcast → c.destinations = .all → c.current = 1 →
        c.outcomes.length = 1 → t.trunk.watch = none ∧ (stopping = true → t.queue q = .stopped) ∧
        t.desc c.head = (s.desc c.head).handedBack { c with attempts := 1 } .sent c.late)) ∧
  ∀ (line : List Character) (f : Frame) (code : Octet) (last : Seq) (fresh : Bool) (offer : Offer)
    (q : QueueIx) (c : Context) (p : Station) (s : State),
    judge line = some f → f.body = .reply code last fresh offer → f.src = p → f.dst = some s.own →
    p ≠ s.own → s.canEnd → s.settings.isSome = true → s.trunk.transmission = none →
    s.claim.leaveDeferred = false →
    s.trunk.watch = some { queue := q, frame := .notice, station := p } →
    (s.queue q = .running c ∨ s.queue q = .stopping c) →
    c.copy.kind = .notice → c.toOne p → s.log.length < 64 →
    ∃ t : State, exec (.validFrameEnd line) s = .next t ∧
      ((∃ x, s.queue q = .stopping x) → (code = 8 ∨ code = 9 ∨ code = 10) → t.queue q = .stopped) ∧
      (code = 8 → t.trunk.watch = none ∧
        t.desc c.head = (s.desc c.head).handedBack c .taken c.late) ∧
      (code = 9 → t.trunk.watch = none ∧
        t.desc c.head = (s.desc c.head).handedBack c .overwrote c.late) ∧
      (code = 10 → t.trunk.watch = none ∧
        t.desc c.head = (s.desc c.head).handedBack c .closed c.late)

/-- R145, R148, R149, Table 11-4: LOG_TAKE of an empty log is answered EMPTY (0x01); otherwise it removes the
oldest record and reports it, with the number left before any service. The waiting queue with the lowest
number then has its record appended and its descriptor handed back, and a stopping one is STOPPED; with no
queue waiting nothing else changes. The outcome octets are those of section 11.7. -/
def Obligations.LogTakeReportsTheOldestAndServesOne : Prop :=
  OutcomeOctets ∧ ∀ s : State, s.listens → s.settings.isSome = true →
    (s.log = [] → exec .logTake s = .next (s.answered 0x01 [])) ∧
    ∀ (r : CompletionRecord) (rest : List CompletionRecord), s.log = r :: rest →
      ∃ (t : State) (data : List Octet), exec .logTake s = .next (t.answered 0x00 data) ∧
        data.length = 23 ∧
        data.take 7 = [octet rest.length, octet r.queue.val, octet r.descriptor.val,
          octet r.outcome.code, octet r.attempts, octet r.late, octet (r.perDest.getD []).length] ∧
        (∀ (k : Nat) (p : Station) (o : Outcome), k < 8 → (r.perDest.getD [])[k]? = some (p, o) →
          data.getD (7 + 2 * k) 0 = octet p.val ∧ data.getD (8 + 2 * k) 0 = octet o.code) ∧
        ((∀ q : QueueIx, (s.queue q).waitsForRoom = false) → t = s.setLog rest) ∧
        ∀ (q : QueueIx) (c : Context),
          s.queue q = .blockedLog c ∨ (s.queue q = .stopping c ∧ c.outcome.isSome = true) →
          (∀ j < q, (s.queue j).waitsForRoom = false) →
          t.log.take (rest.length + 1) = rest ++ [c.completion q] ∧
          t.desc c.head = { s.desc c.head with
            armed := false, holder := none, outcome := some c.settledOutcome, attempts := c.attempts,
            late := c.late, perDest := c.perDest } ∧
          (s.queue q = .stopping c → t.queue q = .stopped ∧ t.log = rest ++ [c.completion q])

/-! ### Reading commands -/

/-- R54, R60, R76, R180, Table 11-4: DESC_READ, QUEUE_READ and PEER_READ report, octet by octet, what the part
holds, and change nothing; a number out of range is answered REFUSED_ARG (0x03). That QUEUE_READ reports the
outcomes of every head, one for a single destination, is log entry 16. The outcome octets are those of section
11.7. -/
def Obligations.ReadCommandsReportAndChangeNothing : Prop :=
  OutcomeOctets ∧
  (∀ (d : DescIx) (s : State), s.listens → s.settings.isSome = true → ∃ data : List Octet,
    exec (.descRead (octet d.val)) s = .next (s.answered 0x00 data) ∧ data.length = 34 ∧
    let x := s.desc d
    data.take 18 = [octet d.val,
        octet ((match x.host.kind with | .message => 0 | .broadcast => 1 | .notice => 2) +
          (match x.host.destination with | .station _ => 0 | .list _ => 4 | .all => 8) +
          (if x.host.notify then 16 else 0) + if x.armed then 32 else 0),
        (match x.host.destination with | .station p => octet p.val | .list n => octet n.val | .all => 0),
        octet (x.host.inbox.val + 16 * x.host.word.val)] ++ octetsOf 2 x.host.address.val ++
      octetsOf 2 x.host.length.val ++ octetsOf 4 x.host.value.toNat ++
      [(match x.host.link with | some e => octet e.val | none => 0xFF),
        (match x.holder with | some q => octet q.val | none => 0xFF), outcomeOctet x.outcome,
        octet x.attempts, octet x.late, octet (x.perDest.getD []).length] ∧
    ∀ (k : Nat) (p : Station) (o : Outcome), k < 8 → (x.perDest.getD [])[k]? = some (p, o) →
      data.getD (18 + 2 * k) 0 = octet p.val ∧ data.getD (19 + 2 * k) 0 = octet o.code) ∧
  (∀ (q : QueueIx) (s : State), s.listens → s.settings.isSome = true → ∃ data : List Octet,
    exec (.queueRead (octet q.val)) s = .next (s.answered 0x00 data) ∧ data.length = 19 ∧
    data.getD 0 0 = (match s.queue q with
      | .stopped => 0
      | .waitingAt _ | .waitingAfter _ => 1
      | .running _ => 2
      | .held _ => 3
      | .blockedLog _ => 4
      | .stopping _ => 5) ∧
    (s.queue q = .stopped → data.getD 1 0 = 0 ∧ data.getD 2 0 = 0xFF) ∧
    (∀ d, s.queue q = .waitingAt d → data.getD 1 0 = 1 ∧ data.getD 2 0 = octet d.val) ∧
    (∀ d, s.queue q = .waitingAfter d → data.getD 1 0 = 2 ∧ data.getD 2 0 = octet d.val) ∧
    (data.getD 3 0).getLsbD 0 = (s.queueSetting q).urgent ∧
    (data.getD 3 0).getLsbD 1 = (s.queueSetting q).logAll ∧
    ((data.getD 3 0).getLsbD 2 = true ↔ ∃ c, (s.queue q).context = some c ∧ c.hold.isSome = true) ∧
    ((data.getD 3 0).getLsbD 3 = true ↔ (s.queue q).context.isSome = true ∧ s.onTrunk q) ∧
    (data.getD 3 0).toNat < 16 ∧
    ((s.queue q).context = none → data.drop 4 = [0, 0xFF] ++ List.replicate 13 0) ∧
    ∀ c : Context, (s.queue q).context = some c → data.getD 1 0 = 3 ∧ data.getD 2 0 = octet c.head.val ∧
      data.getD 4 0 = octet c.current ∧
      (∀ p, c.station = some p → data.getD 5 0 = octet p.val) ∧
      (c.destinations = .all → data.getD 5 0 = 63) ∧
      data.getD 6 0 = octet c.stepAttempts ∧ data.getD 7 0 = octet c.fullCount ∧
      data.getD 8 0 = octet c.attempts ∧ data.getD 9 0 = octet c.late ∧
      (c.destCount ≠ 0 → data.getD 10 0 = octet c.destCount) ∧
      ∀ (k : Nat) (o : Outcome), k < 8 → c.outcomes[k]? = some o →
        data.getD (11 + k) 0 = octet o.code) ∧
  (∀ (p : Station) (s : State), s.listens → s.settings.isSome = true → ∃ data : List Octet,
    exec (.peerRead (octet p.val)) s = .next (s.answered 0x00 data) ∧ data.length = 34 ∧
    data.getD 0 0 = (match (s.peer p).state with
      | .unknown => 0
      | .present => 1
      | .silent => 2
      | .self => 3) ∧
    data.getD 1 0 = (match (s.peer p).epoch with | some e => octet e.toNat | none => 0xFF) ∧
    ∀ i : InboxIx,
      data.getD (2 + 2 * i.val) 0 =
        octet ((s.sendPair p i).anchor.val + 16 * (s.sendPair p i).blind) ∧
      data.getD (3 + 2 * i.val) 0 =
        (match (s.sendPair p i).lock with | some q => octet q.val | none => 0xFF) ∧
      data.getD (18 + i.val) 0 = (match s.hint p i with | some h => octet h.val | none => 0xFF) ∧
      data.getD (26 + i.val) 0 =
        (match s.receivePair p i with | some l => octet l.val | none => 0xFF)) ∧
  ∀ (n : Octet) (s : State), s.listens → s.settings.isSome = true →
    (128 ≤ n.toNat → exec (.descRead n) s = .next (s.answered 0x03 [])) ∧
    (4 ≤ n.toNat → exec (.queueRead n) s = .next (s.answered 0x03 [])) ∧
    (32 ≤ n.toNat → exec (.peerRead n) s = .next (s.answered 0x03 []))

/-- R105, R107, R108, R119, R130, Table 11-4: INBOX_POST appends a buffer, INBOX_TAKE removes and reports the
oldest arrival, each making an announcement pending where it raises the offered count from 0 while there are
waiters; INBOX_READ reports the inbox and takes its drop count. An inbox number or an address out of range is
answered REFUSED_ARG (R180), and refusals change nothing. -/
def Obligations.InboxCommandsMoveBuffersAndArrivals : Prop :=
  (∀ (i : InboxIx) (a : MemAddr) (n : Half) (s : State), s.listens → s.settings.isSome = true →
    let c : Instr := .inboxPost (octet i.val) (BitVec.ofNat 16 a.val) n
    let x := s.inbox i
    let inRange : Prop := 1 ≤ n.toNat ∧ n.toNat ≤ 512 ∧ a.val + n.toNat ≤ 32768
    (¬ inRange → exec c s = .next (s.answered 0x03 [])) ∧
    (inRange → (s.inboxSetting i).enabled = false → exec c s = .next (s.answered 0x02 [])) ∧
    (inRange → (s.inboxSetting i).enabled = true → 32 ≤ x.free.length →
      exec c s = .next (s.answered 0x05 [])) ∧
    (inRange → (s.inboxSetting i).enabled = true → x.free.length < 32 →
      exec c s = .next ((s.setInbox i { x with
        free := x.free ++ [{ address := a, capacity := n.toNat }],
        announce := x.announce ||
          decide (x.offered = 0 ∧ x.arrivals.length < 64 ∧ x.waiters ≠ 0) }).answered 0x00 []))) ∧
  (∀ (i : InboxIx) (s : State), s.listens → s.settings.isSome = true →
    let x := s.inbox i
    (x.arrivals = [] → exec (.inboxTake (octet i.val)) s = .next (s.answered 0x01 [])) ∧
    ∀ (a : Arrival) (rest : List Arrival), x.arrivals = a :: rest →
      exec (.inboxTake (octet i.val)) s = .next ((s.setInbox i { x with
        arrivals := rest,
        announce := x.announce || decide (x.offered = 0 ∧ x.free ≠ [] ∧ rest.length < 64 ∧
          x.waiters ≠ 0) }).answered 0x00
        ([octet a.source.val, match a.kind with | .data => 1 | .bcast => 2] ++ octetsOf 2 a.length ++
          octetsOf 2 a.buffer.address.val ++ octetsOf 2 a.buffer.capacity ++
          [match a.seq with | some n => octet n.val | none => 0xFF]))) ∧
  (∀ (n : Octet) (a h : Half) (s : State), s.listens → s.settings.isSome = true →
    (8 ≤ n.toNat ∨ 32768 ≤ a.toNat → exec (.inboxPost n a h) s = .next (s.answered 0x03 [])) ∧
    (8 ≤ n.toNat → exec (.inboxTake n) s = .next (s.answered 0x03 []) ∧
      exec (.inboxRead n) s = .next (s.answered 0x03 []))) ∧
  ∀ (i : InboxIx) (s : State), s.listens → s.settings.isSome = true →
    let x := s.inbox i
    exec (.inboxRead (octet i.val)) s = .next ((s.setInbox i { x with drops := 0 }).answered 0x00
      ([octet ((if (s.inboxSetting i).enabled then 1 else 0) +
          (if (s.inboxSetting i).broadcast then 2 else 0) + if x.announce then 4 else 0)] ++
        octetsOf 4 (s.inboxSetting i).sources.toNat ++ [octet x.free.length] ++
        (match x.free with
          | b :: _ => octetsOf 2 b.address.val ++ octetsOf 2 b.capacity
          | [] => [0, 0, 0, 0]) ++
        [octet x.arrivals.length, octet (min (min x.free.length (64 - x.arrivals.length)) 63)] ++
        octetsOf 4 x.waiters.toNat ++ octetsOf 2 x.drops))

/-! ### Event flags, notice words and counters -/

/-- R107, R143, R147, R151, R153, R155, Tables 9-1 and 11-4: each of the 21 flags is what its number names; ATTN
is asserted exactly when a flag that the mask enables is set, and released while RST is held low; EVENTS_READ
reports flags, mask and ATTN and changes nothing. -/
def Obligations.EventFlagsAndAttnFollowTheState : Prop :=
  ∀ s : State,
    (∀ i : InboxIx, s.eventFlag i.val = true ↔ (s.inbox i).arrivals ≠ []) ∧
    (∀ w : WordIx, s.eventFlag (8 + w.val) = (s.word w).unread) ∧
    (s.eventFlag 12 = true ↔ s.log ≠ []) ∧
    s.eventFlag 13 = s.attention.peerChange ∧ s.eventFlag 14 = s.attention.peerRestart ∧
    (∀ q : QueueIx, s.eventFlag (15 + q.val) = s.attention.queueIdle[q]) ∧
    s.eventFlag 19 = s.attention.quietEntered ∧ s.eventFlag 20 = s.attention.lineStuck ∧
    (s.attn = true ↔ s.rst = .high ∧
      ∃ n : Nat, n < 21 ∧ s.eventFlag n = true ∧ s.attention.mask.getLsbD n = true) ∧
    (s.listens → s.settings.isSome = true → ∃ data : List Octet,
      exec .eventsRead s = .next (s.answered 0x00 data) ∧ data.length = 7 ∧
      (∀ n : Nat, n < 24 → (data.getD (n / 8) 0).getLsbD (n % 8) = s.eventFlag n) ∧
      (∀ n : Nat, n < 24 → (data.getD (3 + n / 8) 0).getLsbD (n % 8) = s.attention.mask.getLsbD n) ∧
      data.getD 6 0 = if s.attn then 1 else 0)

/-- R141, R153, R154, R168, Table 11-4: EVENTS_CLEAR clears exactly the latched events that its octets select;
MASK_WRITE replaces the mask; NOTICE_TAKE reports a word and clears its unread flag; COUNTERS_TAKE reports the
four counters and sets them to 0. Nothing else changes. A word number out of range is answered REFUSED_ARG. -/
def Obligations.ClearsAndTakesActOnWhatTheyReport : Prop :=
  ∀ s : State, s.listens → s.settings.isSome = true →
    (∀ m : BitVec 24, ∃ a : Attention,
      exec (.eventsClear m) s = .next ((s.setAttention a).answered 0x00 []) ∧
      a.peerChange = (s.attention.peerChange && !m.getLsbD 13) ∧
      a.peerRestart = (s.attention.peerRestart && !m.getLsbD 14) ∧
      (∀ q : QueueIx, a.queueIdle[q] = (s.attention.queueIdle[q] && !m.getLsbD (15 + q.val))) ∧
      a.quietEntered = (s.attention.quietEntered && !m.getLsbD 19) ∧
      a.lineStuck = (s.attention.lineStuck && !m.getLsbD 20) ∧ a.mask = s.attention.mask) ∧
    (∀ m : BitVec 24, ∃ mask : BitVec 21,
      exec (.maskWrite m) s =
        .next ((s.setAttention { s.attention with mask := mask }).answered 0x00 []) ∧
      ∀ n : Nat, n < 21 → mask.getLsbD n = m.getLsbD n) ∧
    (∀ w : WordIx, exec (.noticeTake (octet w.val)) s =
      .next ((s.setWord w { s.word w with unread := false }).answered 0x00
        (octetsOf 4 (s.word w).value.toNat ++
          [match (s.word w).writer with | some p => octet p.val | none => 0xFF,
            if (s.word w).unread then 1 else 0]))) ∧
    (∀ n : Octet, 4 ≤ n.toNat → exec (.noticeTake n) s = .next (s.answered 0x03 [])) ∧
    exec .countersTake s = .next (State.answered
      { s with counters := { invalid := 0, collisions := 0, noReply := 0, drops := 0 } } 0x00
      (octetsOf 2 s.counters.invalid ++ octetsOf 2 s.counters.collisions ++
        octetsOf 2 s.counters.noReply ++ octetsOf 2 s.counters.drops))

/-! ### What every step keeps -/

/-- R2, R51, R56, R57, R61, R94, R103, R105, R108, R123, R130, R131, R147, R159: every step keeps packet memory
in its canonical form (log entry 17), the lists, counts and posted buffers that `Capacity` names within their
limits (that the blind count stops at 3 in every state is log entry 18), and an announcement pending exactly
while there are waiters and room. -/
def Obligations.StepsKeepMemorySizesAndAnnouncements : Prop :=
  ∀ s t : State, step s = .next t →
    (MemoryForm s → MemoryForm t) ∧ (Capacity s → Capacity t) ∧ (Announcements s → Announcements t)

/-- R51, R71, R78 to R80: every step keeps each pair's lock with exactly the queue whose step under way holds
it, and no settled message holds a lock. -/
def Obligations.StepsKeepLocksWithTheirQueues : Prop :=
  ∀ s t : State, Locks s → step s = .next t → Locks t

/-- R57, R58, R62, R63: every step keeps a descriptor's holder the queue whose head it is, and a held
descriptor armed. -/
def Obligations.StepsKeepHoldersWithTheirQueues : Prop :=
  ∀ s t : State, Holders s → step s = .next t → Holders t

/-- R18, R30, R33, R35, R176: every step keeps the station UNCONFIGURED exactly until CONFIGURE is taken, the
join count running only in LISTENING on an IDLE line, the quiet timer running exactly in QUIET, and a LEAVE
deferred only while the station drives the line. -/
def Obligations.StepsKeepTimersInTheirStates : Prop :=
  ∀ s t : State, Timers s → step s = .next t → Timers t
end

