-- ==== Sys2Proof/Laws/State.lean ====
section
/-!
SUPPORT. What each update of Sys2Proof/Machine/Ops.lean does to each block of the state: one rule per
field per update, so that no proof unfolds a record update. Then what the element reads give after the
element updates.
-/

namespace Sys2Proof.Machine

/-! ### The block updates -/

section
variable (s : State) (x : Straps)
@[simp] theorem setStraps_straps : (s.setStraps x).straps = x := rfl
@[simp] theorem setStraps_rst : (s.setStraps x).rst = s.rst := rfl
@[simp] theorem setStraps_trunk : (s.setStraps x).trunk = s.trunk := rfl
@[simp] theorem setStraps_claim : (s.setStraps x).claim = s.claim := rfl
@[simp] theorem setStraps_peers : (s.setStraps x).peers = s.peers := rfl
@[simp] theorem setStraps_store : (s.setStraps x).store = s.store := rfl
@[simp] theorem setStraps_queues : (s.setStraps x).queues = s.queues := rfl
@[simp] theorem setStraps_inboxes : (s.setStraps x).inboxes = s.inboxes := rfl
@[simp] theorem setStraps_words : (s.setStraps x).words = s.words := rfl
@[simp] theorem setStraps_log : (s.setStraps x).log = s.log := rfl
@[simp] theorem setStraps_attention : (s.setStraps x).attention = s.attention := rfl
@[simp] theorem setStraps_counters : (s.setStraps x).counters = s.counters := rfl
@[simp] theorem setStraps_memory : (s.setStraps x).memory = s.memory := rfl
@[simp] theorem setStraps_port : (s.setStraps x).port = s.port := rfl
@[simp] theorem setStraps_settings : (s.setStraps x).settings = s.settings := rfl
@[simp] theorem setStraps_pending : (s.setStraps x).pending = s.pending := rfl
end

section
variable (s : State) (x : PinLevel)
@[simp] theorem setRst_straps : (s.setRst x).straps = s.straps := rfl
@[simp] theorem setRst_rst : (s.setRst x).rst = x := rfl
@[simp] theorem setRst_trunk : (s.setRst x).trunk = s.trunk := rfl
@[simp] theorem setRst_claim : (s.setRst x).claim = s.claim := rfl
@[simp] theorem setRst_peers : (s.setRst x).peers = s.peers := rfl
@[simp] theorem setRst_store : (s.setRst x).store = s.store := rfl
@[simp] theorem setRst_queues : (s.setRst x).queues = s.queues := rfl
@[simp] theorem setRst_inboxes : (s.setRst x).inboxes = s.inboxes := rfl
@[simp] theorem setRst_words : (s.setRst x).words = s.words := rfl
@[simp] theorem setRst_log : (s.setRst x).log = s.log := rfl
@[simp] theorem setRst_attention : (s.setRst x).attention = s.attention := rfl
@[simp] theorem setRst_counters : (s.setRst x).counters = s.counters := rfl
@[simp] theorem setRst_memory : (s.setRst x).memory = s.memory := rfl
@[simp] theorem setRst_port : (s.setRst x).port = s.port := rfl
@[simp] theorem setRst_settings : (s.setRst x).settings = s.settings := rfl
@[simp] theorem setRst_pending : (s.setRst x).pending = s.pending := rfl
end

section
variable (s : State) (x : TrunkInterface)
@[simp] theorem setTrunk_straps : (s.setTrunk x).straps = s.straps := rfl
@[simp] theorem setTrunk_rst : (s.setTrunk x).rst = s.rst := rfl
@[simp] theorem setTrunk_trunk : (s.setTrunk x).trunk = x := rfl
@[simp] theorem setTrunk_claim : (s.setTrunk x).claim = s.claim := rfl
@[simp] theorem setTrunk_peers : (s.setTrunk x).peers = s.peers := rfl
@[simp] theorem setTrunk_store : (s.setTrunk x).store = s.store := rfl
@[simp] theorem setTrunk_queues : (s.setTrunk x).queues = s.queues := rfl
@[simp] theorem setTrunk_inboxes : (s.setTrunk x).inboxes = s.inboxes := rfl
@[simp] theorem setTrunk_words : (s.setTrunk x).words = s.words := rfl
@[simp] theorem setTrunk_log : (s.setTrunk x).log = s.log := rfl
@[simp] theorem setTrunk_attention : (s.setTrunk x).attention = s.attention := rfl
@[simp] theorem setTrunk_counters : (s.setTrunk x).counters = s.counters := rfl
@[simp] theorem setTrunk_memory : (s.setTrunk x).memory = s.memory := rfl
@[simp] theorem setTrunk_port : (s.setTrunk x).port = s.port := rfl
@[simp] theorem setTrunk_settings : (s.setTrunk x).settings = s.settings := rfl
@[simp] theorem setTrunk_pending : (s.setTrunk x).pending = s.pending := rfl
end

section
variable (s : State) (x : ClaimUnit)
@[simp] theorem setClaim_straps : (s.setClaim x).straps = s.straps := rfl
@[simp] theorem setClaim_rst : (s.setClaim x).rst = s.rst := rfl
@[simp] theorem setClaim_trunk : (s.setClaim x).trunk = s.trunk := rfl
@[simp] theorem setClaim_claim : (s.setClaim x).claim = x := rfl
@[simp] theorem setClaim_peers : (s.setClaim x).peers = s.peers := rfl
@[simp] theorem setClaim_store : (s.setClaim x).store = s.store := rfl
@[simp] theorem setClaim_queues : (s.setClaim x).queues = s.queues := rfl
@[simp] theorem setClaim_inboxes : (s.setClaim x).inboxes = s.inboxes := rfl
@[simp] theorem setClaim_words : (s.setClaim x).words = s.words := rfl
@[simp] theorem setClaim_log : (s.setClaim x).log = s.log := rfl
@[simp] theorem setClaim_attention : (s.setClaim x).attention = s.attention := rfl
@[simp] theorem setClaim_counters : (s.setClaim x).counters = s.counters := rfl
@[simp] theorem setClaim_memory : (s.setClaim x).memory = s.memory := rfl
@[simp] theorem setClaim_port : (s.setClaim x).port = s.port := rfl
@[simp] theorem setClaim_settings : (s.setClaim x).settings = s.settings := rfl
@[simp] theorem setClaim_pending : (s.setClaim x).pending = s.pending := rfl
end

section
variable (s : State) (x : PeerTable)
@[simp] theorem setPeers_straps : (s.setPeers x).straps = s.straps := rfl
@[simp] theorem setPeers_rst : (s.setPeers x).rst = s.rst := rfl
@[simp] theorem setPeers_trunk : (s.setPeers x).trunk = s.trunk := rfl
@[simp] theorem setPeers_claim : (s.setPeers x).claim = s.claim := rfl
@[simp] theorem setPeers_peers : (s.setPeers x).peers = x := rfl
@[simp] theorem setPeers_store : (s.setPeers x).store = s.store := rfl
@[simp] theorem setPeers_queues : (s.setPeers x).queues = s.queues := rfl
@[simp] theorem setPeers_inboxes : (s.setPeers x).inboxes = s.inboxes := rfl
@[simp] theorem setPeers_words : (s.setPeers x).words = s.words := rfl
@[simp] theorem setPeers_log : (s.setPeers x).log = s.log := rfl
@[simp] theorem setPeers_attention : (s.setPeers x).attention = s.attention := rfl
@[simp] theorem setPeers_counters : (s.setPeers x).counters = s.counters := rfl
@[simp] theorem setPeers_memory : (s.setPeers x).memory = s.memory := rfl
@[simp] theorem setPeers_port : (s.setPeers x).port = s.port := rfl
@[simp] theorem setPeers_settings : (s.setPeers x).settings = s.settings := rfl
@[simp] theorem setPeers_pending : (s.setPeers x).pending = s.pending := rfl
end

section
variable (s : State) (x : DescriptorStore)
@[simp] theorem setStore_straps : (s.setStore x).straps = s.straps := rfl
@[simp] theorem setStore_rst : (s.setStore x).rst = s.rst := rfl
@[simp] theorem setStore_trunk : (s.setStore x).trunk = s.trunk := rfl
@[simp] theorem setStore_claim : (s.setStore x).claim = s.claim := rfl
@[simp] theorem setStore_peers : (s.setStore x).peers = s.peers := rfl
@[simp] theorem setStore_store : (s.setStore x).store = x := rfl
@[simp] theorem setStore_queues : (s.setStore x).queues = s.queues := rfl
@[simp] theorem setStore_inboxes : (s.setStore x).inboxes = s.inboxes := rfl
@[simp] theorem setStore_words : (s.setStore x).words = s.words := rfl
@[simp] theorem setStore_log : (s.setStore x).log = s.log := rfl
@[simp] theorem setStore_attention : (s.setStore x).attention = s.attention := rfl
@[simp] theorem setStore_counters : (s.setStore x).counters = s.counters := rfl
@[simp] theorem setStore_memory : (s.setStore x).memory = s.memory := rfl
@[simp] theorem setStore_port : (s.setStore x).port = s.port := rfl
@[simp] theorem setStore_settings : (s.setStore x).settings = s.settings := rfl
@[simp] theorem setStore_pending : (s.setStore x).pending = s.pending := rfl
end

section
variable (s : State) (x : Vector QueueState 4)
@[simp] theorem setQueues_straps : (s.setQueues x).straps = s.straps := rfl
@[simp] theorem setQueues_rst : (s.setQueues x).rst = s.rst := rfl
@[simp] theorem setQueues_trunk : (s.setQueues x).trunk = s.trunk := rfl
@[simp] theorem setQueues_claim : (s.setQueues x).claim = s.claim := rfl
@[simp] theorem setQueues_peers : (s.setQueues x).peers = s.peers := rfl
@[simp] theorem setQueues_store : (s.setQueues x).store = s.store := rfl
@[simp] theorem setQueues_queues : (s.setQueues x).queues = x := rfl
@[simp] theorem setQueues_inboxes : (s.setQueues x).inboxes = s.inboxes := rfl
@[simp] theorem setQueues_words : (s.setQueues x).words = s.words := rfl
@[simp] theorem setQueues_log : (s.setQueues x).log = s.log := rfl
@[simp] theorem setQueues_attention : (s.setQueues x).attention = s.attention := rfl
@[simp] theorem setQueues_counters : (s.setQueues x).counters = s.counters := rfl
@[simp] theorem setQueues_memory : (s.setQueues x).memory = s.memory := rfl
@[simp] theorem setQueues_port : (s.setQueues x).port = s.port := rfl
@[simp] theorem setQueues_settings : (s.setQueues x).settings = s.settings := rfl
@[simp] theorem setQueues_pending : (s.setQueues x).pending = s.pending := rfl
end

section
variable (s : State) (x : Vector Inbox 8)
@[simp] theorem setInboxes_straps : (s.setInboxes x).straps = s.straps := rfl
@[simp] theorem setInboxes_rst : (s.setInboxes x).rst = s.rst := rfl
@[simp] theorem setInboxes_trunk : (s.setInboxes x).trunk = s.trunk := rfl
@[simp] theorem setInboxes_claim : (s.setInboxes x).claim = s.claim := rfl
@[simp] theorem setInboxes_peers : (s.setInboxes x).peers = s.peers := rfl
@[simp] theorem setInboxes_store : (s.setInboxes x).store = s.store := rfl
@[simp] theorem setInboxes_queues : (s.setInboxes x).queues = s.queues := rfl
@[simp] theorem setInboxes_inboxes : (s.setInboxes x).inboxes = x := rfl
@[simp] theorem setInboxes_words : (s.setInboxes x).words = s.words := rfl
@[simp] theorem setInboxes_log : (s.setInboxes x).log = s.log := rfl
@[simp] theorem setInboxes_attention : (s.setInboxes x).attention = s.attention := rfl
@[simp] theorem setInboxes_counters : (s.setInboxes x).counters = s.counters := rfl
@[simp] theorem setInboxes_memory : (s.setInboxes x).memory = s.memory := rfl
@[simp] theorem setInboxes_port : (s.setInboxes x).port = s.port := rfl
@[simp] theorem setInboxes_settings : (s.setInboxes x).settings = s.settings := rfl
@[simp] theorem setInboxes_pending : (s.setInboxes x).pending = s.pending := rfl
end

section
variable (s : State) (x : Vector NoticeWord 4)
@[simp] theorem setWords_straps : (s.setWords x).straps = s.straps := rfl
@[simp] theorem setWords_rst : (s.setWords x).rst = s.rst := rfl
@[simp] theorem setWords_trunk : (s.setWords x).trunk = s.trunk := rfl
@[simp] theorem setWords_claim : (s.setWords x).claim = s.claim := rfl
@[simp] theorem setWords_peers : (s.setWords x).peers = s.peers := rfl
@[simp] theorem setWords_store : (s.setWords x).store = s.store := rfl
@[simp] theorem setWords_queues : (s.setWords x).queues = s.queues := rfl
@[simp] theorem setWords_inboxes : (s.setWords x).inboxes = s.inboxes := rfl
@[simp] theorem setWords_words : (s.setWords x).words = x := rfl
@[simp] theorem setWords_log : (s.setWords x).log = s.log := rfl
@[simp] theorem setWords_attention : (s.setWords x).attention = s.attention := rfl
@[simp] theorem setWords_counters : (s.setWords x).counters = s.counters := rfl
@[simp] theorem setWords_memory : (s.setWords x).memory = s.memory := rfl
@[simp] theorem setWords_port : (s.setWords x).port = s.port := rfl
@[simp] theorem setWords_settings : (s.setWords x).settings = s.settings := rfl
@[simp] theorem setWords_pending : (s.setWords x).pending = s.pending := rfl
end

section
variable (s : State) (x : List CompletionRecord)
@[simp] theorem setLog_straps : (s.setLog x).straps = s.straps := rfl
@[simp] theorem setLog_rst : (s.setLog x).rst = s.rst := rfl
@[simp] theorem setLog_trunk : (s.setLog x).trunk = s.trunk := rfl
@[simp] theorem setLog_claim : (s.setLog x).claim = s.claim := rfl
@[simp] theorem setLog_peers : (s.setLog x).peers = s.peers := rfl
@[simp] theorem setLog_store : (s.setLog x).store = s.store := rfl
@[simp] theorem setLog_queues : (s.setLog x).queues = s.queues := rfl
@[simp] theorem setLog_inboxes : (s.setLog x).inboxes = s.inboxes := rfl
@[simp] theorem setLog_words : (s.setLog x).words = s.words := rfl
@[simp] theorem setLog_log : (s.setLog x).log = x := rfl
@[simp] theorem setLog_attention : (s.setLog x).attention = s.attention := rfl
@[simp] theorem setLog_counters : (s.setLog x).counters = s.counters := rfl
@[simp] theorem setLog_memory : (s.setLog x).memory = s.memory := rfl
@[simp] theorem setLog_port : (s.setLog x).port = s.port := rfl
@[simp] theorem setLog_settings : (s.setLog x).settings = s.settings := rfl
@[simp] theorem setLog_pending : (s.setLog x).pending = s.pending := rfl
end

section
variable (s : State) (x : Attention)
@[simp] theorem setAttention_straps : (s.setAttention x).straps = s.straps := rfl
@[simp] theorem setAttention_rst : (s.setAttention x).rst = s.rst := rfl
@[simp] theorem setAttention_trunk : (s.setAttention x).trunk = s.trunk := rfl
@[simp] theorem setAttention_claim : (s.setAttention x).claim = s.claim := rfl
@[simp] theorem setAttention_peers : (s.setAttention x).peers = s.peers := rfl
@[simp] theorem setAttention_store : (s.setAttention x).store = s.store := rfl
@[simp] theorem setAttention_queues : (s.setAttention x).queues = s.queues := rfl
@[simp] theorem setAttention_inboxes : (s.setAttention x).inboxes = s.inboxes := rfl
@[simp] theorem setAttention_words : (s.setAttention x).words = s.words := rfl
@[simp] theorem setAttention_log : (s.setAttention x).log = s.log := rfl
@[simp] theorem setAttention_attention : (s.setAttention x).attention = x := rfl
@[simp] theorem setAttention_counters : (s.setAttention x).counters = s.counters := rfl
@[simp] theorem setAttention_memory : (s.setAttention x).memory = s.memory := rfl
@[simp] theorem setAttention_port : (s.setAttention x).port = s.port := rfl
@[simp] theorem setAttention_settings : (s.setAttention x).settings = s.settings := rfl
@[simp] theorem setAttention_pending : (s.setAttention x).pending = s.pending := rfl
end

section
variable (s : State) (x : Counters)
@[simp] theorem setCounters_straps : (s.setCounters x).straps = s.straps := rfl
@[simp] theorem setCounters_rst : (s.setCounters x).rst = s.rst := rfl
@[simp] theorem setCounters_trunk : (s.setCounters x).trunk = s.trunk := rfl
@[simp] theorem setCounters_claim : (s.setCounters x).claim = s.claim := rfl
@[simp] theorem setCounters_peers : (s.setCounters x).peers = s.peers := rfl
@[simp] theorem setCounters_store : (s.setCounters x).store = s.store := rfl
@[simp] theorem setCounters_queues : (s.setCounters x).queues = s.queues := rfl
@[simp] theorem setCounters_inboxes : (s.setCounters x).inboxes = s.inboxes := rfl
@[simp] theorem setCounters_words : (s.setCounters x).words = s.words := rfl
@[simp] theorem setCounters_log : (s.setCounters x).log = s.log := rfl
@[simp] theorem setCounters_attention : (s.setCounters x).attention = s.attention := rfl
@[simp] theorem setCounters_counters : (s.setCounters x).counters = x := rfl
@[simp] theorem setCounters_memory : (s.setCounters x).memory = s.memory := rfl
@[simp] theorem setCounters_port : (s.setCounters x).port = s.port := rfl
@[simp] theorem setCounters_settings : (s.setCounters x).settings = s.settings := rfl
@[simp] theorem setCounters_pending : (s.setCounters x).pending = s.pending := rfl
end

section
variable (s : State) (x : Memory)
@[simp] theorem setMemory_straps : (s.setMemory x).straps = s.straps := rfl
@[simp] theorem setMemory_rst : (s.setMemory x).rst = s.rst := rfl
@[simp] theorem setMemory_trunk : (s.setMemory x).trunk = s.trunk := rfl
@[simp] theorem setMemory_claim : (s.setMemory x).claim = s.claim := rfl
@[simp] theorem setMemory_peers : (s.setMemory x).peers = s.peers := rfl
@[simp] theorem setMemory_store : (s.setMemory x).store = s.store := rfl
@[simp] theorem setMemory_queues : (s.setMemory x).queues = s.queues := rfl
@[simp] theorem setMemory_inboxes : (s.setMemory x).inboxes = s.inboxes := rfl
@[simp] theorem setMemory_words : (s.setMemory x).words = s.words := rfl
@[simp] theorem setMemory_log : (s.setMemory x).log = s.log := rfl
@[simp] theorem setMemory_attention : (s.setMemory x).attention = s.attention := rfl
@[simp] theorem setMemory_counters : (s.setMemory x).counters = s.counters := rfl
@[simp] theorem setMemory_memory : (s.setMemory x).memory = x := rfl
@[simp] theorem setMemory_port : (s.setMemory x).port = s.port := rfl
@[simp] theorem setMemory_settings : (s.setMemory x).settings = s.settings := rfl
@[simp] theorem setMemory_pending : (s.setMemory x).pending = s.pending := rfl
end

section
variable (s : State) (x : HostPort)
@[simp] theorem setPort_straps : (s.setPort x).straps = s.straps := rfl
@[simp] theorem setPort_rst : (s.setPort x).rst = s.rst := rfl
@[simp] theorem setPort_trunk : (s.setPort x).trunk = s.trunk := rfl
@[simp] theorem setPort_claim : (s.setPort x).claim = s.claim := rfl
@[simp] theorem setPort_peers : (s.setPort x).peers = s.peers := rfl
@[simp] theorem setPort_store : (s.setPort x).store = s.store := rfl
@[simp] theorem setPort_queues : (s.setPort x).queues = s.queues := rfl
@[simp] theorem setPort_inboxes : (s.setPort x).inboxes = s.inboxes := rfl
@[simp] theorem setPort_words : (s.setPort x).words = s.words := rfl
@[simp] theorem setPort_log : (s.setPort x).log = s.log := rfl
@[simp] theorem setPort_attention : (s.setPort x).attention = s.attention := rfl
@[simp] theorem setPort_counters : (s.setPort x).counters = s.counters := rfl
@[simp] theorem setPort_memory : (s.setPort x).memory = s.memory := rfl
@[simp] theorem setPort_port : (s.setPort x).port = x := rfl
@[simp] theorem setPort_settings : (s.setPort x).settings = s.settings := rfl
@[simp] theorem setPort_pending : (s.setPort x).pending = s.pending := rfl
end

section
variable (s : State) (x : Option Settings)
@[simp] theorem setSettings_straps : (s.setSettings x).straps = s.straps := rfl
@[simp] theorem setSettings_rst : (s.setSettings x).rst = s.rst := rfl
@[simp] theorem setSettings_trunk : (s.setSettings x).trunk = s.trunk := rfl
@[simp] theorem setSettings_claim : (s.setSettings x).claim = s.claim := rfl
@[simp] theorem setSettings_peers : (s.setSettings x).peers = s.peers := rfl
@[simp] theorem setSettings_store : (s.setSettings x).store = s.store := rfl
@[simp] theorem setSettings_queues : (s.setSettings x).queues = s.queues := rfl
@[simp] theorem setSettings_inboxes : (s.setSettings x).inboxes = s.inboxes := rfl
@[simp] theorem setSettings_words : (s.setSettings x).words = s.words := rfl
@[simp] theorem setSettings_log : (s.setSettings x).log = s.log := rfl
@[simp] theorem setSettings_attention : (s.setSettings x).attention = s.attention := rfl
@[simp] theorem setSettings_counters : (s.setSettings x).counters = s.counters := rfl
@[simp] theorem setSettings_memory : (s.setSettings x).memory = s.memory := rfl
@[simp] theorem setSettings_port : (s.setSettings x).port = s.port := rfl
@[simp] theorem setSettings_settings : (s.setSettings x).settings = x := rfl
@[simp] theorem setSettings_pending : (s.setSettings x).pending = s.pending := rfl
end

section
variable (s : State) (x : List Instr)
@[simp] theorem setPending_straps : (s.setPending x).straps = s.straps := rfl
@[simp] theorem setPending_rst : (s.setPending x).rst = s.rst := rfl
@[simp] theorem setPending_trunk : (s.setPending x).trunk = s.trunk := rfl
@[simp] theorem setPending_claim : (s.setPending x).claim = s.claim := rfl
@[simp] theorem setPending_peers : (s.setPending x).peers = s.peers := rfl
@[simp] theorem setPending_store : (s.setPending x).store = s.store := rfl
@[simp] theorem setPending_queues : (s.setPending x).queues = s.queues := rfl
@[simp] theorem setPending_inboxes : (s.setPending x).inboxes = s.inboxes := rfl
@[simp] theorem setPending_words : (s.setPending x).words = s.words := rfl
@[simp] theorem setPending_log : (s.setPending x).log = s.log := rfl
@[simp] theorem setPending_attention : (s.setPending x).attention = s.attention := rfl
@[simp] theorem setPending_counters : (s.setPending x).counters = s.counters := rfl
@[simp] theorem setPending_memory : (s.setPending x).memory = s.memory := rfl
@[simp] theorem setPending_port : (s.setPending x).port = s.port := rfl
@[simp] theorem setPending_settings : (s.setPending x).settings = s.settings := rfl
@[simp] theorem setPending_pending : (s.setPending x).pending = x := rfl
end

/-! ### The element updates -/

section
variable (s : State) (p : Station) (x : PeerEntry)
@[simp] theorem setPeer_straps : (s.setPeer p x).straps = s.straps := rfl
@[simp] theorem setPeer_rst : (s.setPeer p x).rst = s.rst := rfl
@[simp] theorem setPeer_trunk : (s.setPeer p x).trunk = s.trunk := rfl
@[simp] theorem setPeer_claim : (s.setPeer p x).claim = s.claim := rfl
@[simp] theorem setPeer_peers : (s.setPeer p x).peers = { s.peers with entries := put s.peers.entries p x } := rfl
@[simp] theorem setPeer_store : (s.setPeer p x).store = s.store := rfl
@[simp] theorem setPeer_queues : (s.setPeer p x).queues = s.queues := rfl
@[simp] theorem setPeer_inboxes : (s.setPeer p x).inboxes = s.inboxes := rfl
@[simp] theorem setPeer_words : (s.setPeer p x).words = s.words := rfl
@[simp] theorem setPeer_log : (s.setPeer p x).log = s.log := rfl
@[simp] theorem setPeer_attention : (s.setPeer p x).attention = s.attention := rfl
@[simp] theorem setPeer_counters : (s.setPeer p x).counters = s.counters := rfl
@[simp] theorem setPeer_memory : (s.setPeer p x).memory = s.memory := rfl
@[simp] theorem setPeer_port : (s.setPeer p x).port = s.port := rfl
@[simp] theorem setPeer_settings : (s.setPeer p x).settings = s.settings := rfl
@[simp] theorem setPeer_pending : (s.setPeer p x).pending = s.pending := rfl
end

section
variable (s : State) (p : Station) (i : InboxIx) (x : SendPair)
@[simp] theorem setSendPair_straps : (s.setSendPair p i x).straps = s.straps := rfl
@[simp] theorem setSendPair_rst : (s.setSendPair p i x).rst = s.rst := rfl
@[simp] theorem setSendPair_trunk : (s.setSendPair p i x).trunk = s.trunk := rfl
@[simp] theorem setSendPair_claim : (s.setSendPair p i x).claim = s.claim := rfl
@[simp] theorem setSendPair_store : (s.setSendPair p i x).store = s.store := rfl
@[simp] theorem setSendPair_queues : (s.setSendPair p i x).queues = s.queues := rfl
@[simp] theorem setSendPair_inboxes : (s.setSendPair p i x).inboxes = s.inboxes := rfl
@[simp] theorem setSendPair_words : (s.setSendPair p i x).words = s.words := rfl
@[simp] theorem setSendPair_log : (s.setSendPair p i x).log = s.log := rfl
@[simp] theorem setSendPair_attention : (s.setSendPair p i x).attention = s.attention := rfl
@[simp] theorem setSendPair_counters : (s.setSendPair p i x).counters = s.counters := rfl
@[simp] theorem setSendPair_memory : (s.setSendPair p i x).memory = s.memory := rfl
@[simp] theorem setSendPair_port : (s.setSendPair p i x).port = s.port := rfl
@[simp] theorem setSendPair_settings : (s.setSendPair p i x).settings = s.settings := rfl
@[simp] theorem setSendPair_pending : (s.setSendPair p i x).pending = s.pending := rfl
end

section
variable (s : State) (p : Station) (i : InboxIx) (x : Option Offer)
@[simp] theorem setHint_straps : (s.setHint p i x).straps = s.straps := rfl
@[simp] theorem setHint_rst : (s.setHint p i x).rst = s.rst := rfl
@[simp] theorem setHint_trunk : (s.setHint p i x).trunk = s.trunk := rfl
@[simp] theorem setHint_claim : (s.setHint p i x).claim = s.claim := rfl
@[simp] theorem setHint_store : (s.setHint p i x).store = s.store := rfl
@[simp] theorem setHint_queues : (s.setHint p i x).queues = s.queues := rfl
@[simp] theorem setHint_inboxes : (s.setHint p i x).inboxes = s.inboxes := rfl
@[simp] theorem setHint_words : (s.setHint p i x).words = s.words := rfl
@[simp] theorem setHint_log : (s.setHint p i x).log = s.log := rfl
@[simp] theorem setHint_attention : (s.setHint p i x).attention = s.attention := rfl
@[simp] theorem setHint_counters : (s.setHint p i x).counters = s.counters := rfl
@[simp] theorem setHint_memory : (s.setHint p i x).memory = s.memory := rfl
@[simp] theorem setHint_port : (s.setHint p i x).port = s.port := rfl
@[simp] theorem setHint_settings : (s.setHint p i x).settings = s.settings := rfl
@[simp] theorem setHint_pending : (s.setHint p i x).pending = s.pending := rfl
end

section
variable (s : State) (p : Station) (i : InboxIx) (x : Option Seq)
@[simp] theorem setReceivePair_straps : (s.setReceivePair p i x).straps = s.straps := rfl
@[simp] theorem setReceivePair_rst : (s.setReceivePair p i x).rst = s.rst := rfl
@[simp] theorem setReceivePair_trunk : (s.setReceivePair p i x).trunk = s.trunk := rfl
@[simp] theorem setReceivePair_claim : (s.setReceivePair p i x).claim = s.claim := rfl
@[simp] theorem setReceivePair_store : (s.setReceivePair p i x).store = s.store := rfl
@[simp] theorem setReceivePair_queues : (s.setReceivePair p i x).queues = s.queues := rfl
@[simp] theorem setReceivePair_inboxes : (s.setReceivePair p i x).inboxes = s.inboxes := rfl
@[simp] theorem setReceivePair_words : (s.setReceivePair p i x).words = s.words := rfl
@[simp] theorem setReceivePair_log : (s.setReceivePair p i x).log = s.log := rfl
@[simp] theorem setReceivePair_attention : (s.setReceivePair p i x).attention = s.attention := rfl
@[simp] theorem setReceivePair_counters : (s.setReceivePair p i x).counters = s.counters := rfl
@[simp] theorem setReceivePair_memory : (s.setReceivePair p i x).memory = s.memory := rfl
@[simp] theorem setReceivePair_port : (s.setReceivePair p i x).port = s.port := rfl
@[simp] theorem setReceivePair_settings : (s.setReceivePair p i x).settings = s.settings := rfl
@[simp] theorem setReceivePair_pending : (s.setReceivePair p i x).pending = s.pending := rfl
end

section
variable (s : State) (d : DescIx) (x : Descriptor)
@[simp] theorem setDesc_straps : (s.setDesc d x).straps = s.straps := rfl
@[simp] theorem setDesc_rst : (s.setDesc d x).rst = s.rst := rfl
@[simp] theorem setDesc_trunk : (s.setDesc d x).trunk = s.trunk := rfl
@[simp] theorem setDesc_claim : (s.setDesc d x).claim = s.claim := rfl
@[simp] theorem setDesc_peers : (s.setDesc d x).peers = s.peers := rfl
@[simp] theorem setDesc_store : (s.setDesc d x).store = { s.store with descriptors := put s.store.descriptors d x } := rfl
@[simp] theorem setDesc_queues : (s.setDesc d x).queues = s.queues := rfl
@[simp] theorem setDesc_inboxes : (s.setDesc d x).inboxes = s.inboxes := rfl
@[simp] theorem setDesc_words : (s.setDesc d x).words = s.words := rfl
@[simp] theorem setDesc_log : (s.setDesc d x).log = s.log := rfl
@[simp] theorem setDesc_attention : (s.setDesc d x).attention = s.attention := rfl
@[simp] theorem setDesc_counters : (s.setDesc d x).counters = s.counters := rfl
@[simp] theorem setDesc_memory : (s.setDesc d x).memory = s.memory := rfl
@[simp] theorem setDesc_port : (s.setDesc d x).port = s.port := rfl
@[simp] theorem setDesc_settings : (s.setDesc d x).settings = s.settings := rfl
@[simp] theorem setDesc_pending : (s.setDesc d x).pending = s.pending := rfl
end

section
variable (s : State) (n : ListIx) (x : List Station)
@[simp] theorem setFanout_straps : (s.setFanout n x).straps = s.straps := rfl
@[simp] theorem setFanout_rst : (s.setFanout n x).rst = s.rst := rfl
@[simp] theorem setFanout_trunk : (s.setFanout n x).trunk = s.trunk := rfl
@[simp] theorem setFanout_claim : (s.setFanout n x).claim = s.claim := rfl
@[simp] theorem setFanout_peers : (s.setFanout n x).peers = s.peers := rfl
@[simp] theorem setFanout_store : (s.setFanout n x).store = { s.store with lists := put s.store.lists n x } := rfl
@[simp] theorem setFanout_queues : (s.setFanout n x).queues = s.queues := rfl
@[simp] theorem setFanout_inboxes : (s.setFanout n x).inboxes = s.inboxes := rfl
@[simp] theorem setFanout_words : (s.setFanout n x).words = s.words := rfl
@[simp] theorem setFanout_log : (s.setFanout n x).log = s.log := rfl
@[simp] theorem setFanout_attention : (s.setFanout n x).attention = s.attention := rfl
@[simp] theorem setFanout_counters : (s.setFanout n x).counters = s.counters := rfl
@[simp] theorem setFanout_memory : (s.setFanout n x).memory = s.memory := rfl
@[simp] theorem setFanout_port : (s.setFanout n x).port = s.port := rfl
@[simp] theorem setFanout_settings : (s.setFanout n x).settings = s.settings := rfl
@[simp] theorem setFanout_pending : (s.setFanout n x).pending = s.pending := rfl
end

section
variable (s : State) (q : QueueIx) (x : QueueState)
@[simp] theorem setQueue_straps : (s.setQueue q x).straps = s.straps := rfl
@[simp] theorem setQueue_rst : (s.setQueue q x).rst = s.rst := rfl
@[simp] theorem setQueue_trunk : (s.setQueue q x).trunk = s.trunk := rfl
@[simp] theorem setQueue_claim : (s.setQueue q x).claim = s.claim := rfl
@[simp] theorem setQueue_peers : (s.setQueue q x).peers = s.peers := rfl
@[simp] theorem setQueue_store : (s.setQueue q x).store = s.store := rfl
@[simp] theorem setQueue_queues : (s.setQueue q x).queues = put s.queues q x := rfl
@[simp] theorem setQueue_inboxes : (s.setQueue q x).inboxes = s.inboxes := rfl
@[simp] theorem setQueue_words : (s.setQueue q x).words = s.words := rfl
@[simp] theorem setQueue_log : (s.setQueue q x).log = s.log := rfl
@[simp] theorem setQueue_attention : (s.setQueue q x).attention = s.attention := rfl
@[simp] theorem setQueue_counters : (s.setQueue q x).counters = s.counters := rfl
@[simp] theorem setQueue_memory : (s.setQueue q x).memory = s.memory := rfl
@[simp] theorem setQueue_port : (s.setQueue q x).port = s.port := rfl
@[simp] theorem setQueue_settings : (s.setQueue q x).settings = s.settings := rfl
@[simp] theorem setQueue_pending : (s.setQueue q x).pending = s.pending := rfl
end

section
variable (s : State) (i : InboxIx) (x : Inbox)
@[simp] theorem setInbox_straps : (s.setInbox i x).straps = s.straps := rfl
@[simp] theorem setInbox_rst : (s.setInbox i x).rst = s.rst := rfl
@[simp] theorem setInbox_trunk : (s.setInbox i x).trunk = s.trunk := rfl
@[simp] theorem setInbox_claim : (s.setInbox i x).claim = s.claim := rfl
@[simp] theorem setInbox_peers : (s.setInbox i x).peers = s.peers := rfl
@[simp] theorem setInbox_store : (s.setInbox i x).store = s.store := rfl
@[simp] theorem setInbox_queues : (s.setInbox i x).queues = s.queues := rfl
@[simp] theorem setInbox_inboxes : (s.setInbox i x).inboxes = put s.inboxes i x := rfl
@[simp] theorem setInbox_words : (s.setInbox i x).words = s.words := rfl
@[simp] theorem setInbox_log : (s.setInbox i x).log = s.log := rfl
@[simp] theorem setInbox_attention : (s.setInbox i x).attention = s.attention := rfl
@[simp] theorem setInbox_counters : (s.setInbox i x).counters = s.counters := rfl
@[simp] theorem setInbox_memory : (s.setInbox i x).memory = s.memory := rfl
@[simp] theorem setInbox_port : (s.setInbox i x).port = s.port := rfl
@[simp] theorem setInbox_settings : (s.setInbox i x).settings = s.settings := rfl
@[simp] theorem setInbox_pending : (s.setInbox i x).pending = s.pending := rfl
end

section
variable (s : State) (w : WordIx) (x : NoticeWord)
@[simp] theorem setWord_straps : (s.setWord w x).straps = s.straps := rfl
@[simp] theorem setWord_rst : (s.setWord w x).rst = s.rst := rfl
@[simp] theorem setWord_trunk : (s.setWord w x).trunk = s.trunk := rfl
@[simp] theorem setWord_claim : (s.setWord w x).claim = s.claim := rfl
@[simp] theorem setWord_peers : (s.setWord w x).peers = s.peers := rfl
@[simp] theorem setWord_store : (s.setWord w x).store = s.store := rfl
@[simp] theorem setWord_queues : (s.setWord w x).queues = s.queues := rfl
@[simp] theorem setWord_inboxes : (s.setWord w x).inboxes = s.inboxes := rfl
@[simp] theorem setWord_words : (s.setWord w x).words = put s.words w x := rfl
@[simp] theorem setWord_log : (s.setWord w x).log = s.log := rfl
@[simp] theorem setWord_attention : (s.setWord w x).attention = s.attention := rfl
@[simp] theorem setWord_counters : (s.setWord w x).counters = s.counters := rfl
@[simp] theorem setWord_memory : (s.setWord w x).memory = s.memory := rfl
@[simp] theorem setWord_port : (s.setWord w x).port = s.port := rfl
@[simp] theorem setWord_settings : (s.setWord w x).settings = s.settings := rfl
@[simp] theorem setWord_pending : (s.setWord w x).pending = s.pending := rfl
end

section
variable (s : State)
@[simp] theorem latchPeerChange_straps : (s.latchPeerChange).straps = s.straps := rfl
@[simp] theorem latchPeerChange_rst : (s.latchPeerChange).rst = s.rst := rfl
@[simp] theorem latchPeerChange_trunk : (s.latchPeerChange).trunk = s.trunk := rfl
@[simp] theorem latchPeerChange_claim : (s.latchPeerChange).claim = s.claim := rfl
@[simp] theorem latchPeerChange_peers : (s.latchPeerChange).peers = s.peers := rfl
@[simp] theorem latchPeerChange_store : (s.latchPeerChange).store = s.store := rfl
@[simp] theorem latchPeerChange_queues : (s.latchPeerChange).queues = s.queues := rfl
@[simp] theorem latchPeerChange_inboxes : (s.latchPeerChange).inboxes = s.inboxes := rfl
@[simp] theorem latchPeerChange_words : (s.latchPeerChange).words = s.words := rfl
@[simp] theorem latchPeerChange_log : (s.latchPeerChange).log = s.log := rfl
@[simp] theorem latchPeerChange_attention : (s.latchPeerChange).attention = { s.attention with peerChange := true } := rfl
@[simp] theorem latchPeerChange_counters : (s.latchPeerChange).counters = s.counters := rfl
@[simp] theorem latchPeerChange_memory : (s.latchPeerChange).memory = s.memory := rfl
@[simp] theorem latchPeerChange_port : (s.latchPeerChange).port = s.port := rfl
@[simp] theorem latchPeerChange_settings : (s.latchPeerChange).settings = s.settings := rfl
@[simp] theorem latchPeerChange_pending : (s.latchPeerChange).pending = s.pending := rfl
end

section
variable (s : State)
@[simp] theorem latchPeerRestart_straps : (s.latchPeerRestart).straps = s.straps := rfl
@[simp] theorem latchPeerRestart_rst : (s.latchPeerRestart).rst = s.rst := rfl
@[simp] theorem latchPeerRestart_trunk : (s.latchPeerRestart).trunk = s.trunk := rfl
@[simp] theorem latchPeerRestart_claim : (s.latchPeerRestart).claim = s.claim := rfl
@[simp] theorem latchPeerRestart_peers : (s.latchPeerRestart).peers = s.peers := rfl
@[simp] theorem latchPeerRestart_store : (s.latchPeerRestart).store = s.store := rfl
@[simp] theorem latchPeerRestart_queues : (s.latchPeerRestart).queues = s.queues := rfl
@[simp] theorem latchPeerRestart_inboxes : (s.latchPeerRestart).inboxes = s.inboxes := rfl
@[simp] theorem latchPeerRestart_words : (s.latchPeerRestart).words = s.words := rfl
@[simp] theorem latchPeerRestart_log : (s.latchPeerRestart).log = s.log := rfl
@[simp] theorem latchPeerRestart_attention : (s.latchPeerRestart).attention = { s.attention with peerRestart := true } := rfl
@[simp] theorem latchPeerRestart_counters : (s.latchPeerRestart).counters = s.counters := rfl
@[simp] theorem latchPeerRestart_memory : (s.latchPeerRestart).memory = s.memory := rfl
@[simp] theorem latchPeerRestart_port : (s.latchPeerRestart).port = s.port := rfl
@[simp] theorem latchPeerRestart_settings : (s.latchPeerRestart).settings = s.settings := rfl
@[simp] theorem latchPeerRestart_pending : (s.latchPeerRestart).pending = s.pending := rfl
end

section
variable (s : State) (q : QueueIx)
@[simp] theorem latchQueueIdle_straps : (s.latchQueueIdle q).straps = s.straps := rfl
@[simp] theorem latchQueueIdle_rst : (s.latchQueueIdle q).rst = s.rst := rfl
@[simp] theorem latchQueueIdle_trunk : (s.latchQueueIdle q).trunk = s.trunk := rfl
@[simp] theorem latchQueueIdle_claim : (s.latchQueueIdle q).claim = s.claim := rfl
@[simp] theorem latchQueueIdle_peers : (s.latchQueueIdle q).peers = s.peers := rfl
@[simp] theorem latchQueueIdle_store : (s.latchQueueIdle q).store = s.store := rfl
@[simp] theorem latchQueueIdle_queues : (s.latchQueueIdle q).queues = s.queues := rfl
@[simp] theorem latchQueueIdle_inboxes : (s.latchQueueIdle q).inboxes = s.inboxes := rfl
@[simp] theorem latchQueueIdle_words : (s.latchQueueIdle q).words = s.words := rfl
@[simp] theorem latchQueueIdle_log : (s.latchQueueIdle q).log = s.log := rfl
@[simp] theorem latchQueueIdle_attention : (s.latchQueueIdle q).attention = { s.attention with queueIdle := put s.attention.queueIdle q true } := rfl
@[simp] theorem latchQueueIdle_counters : (s.latchQueueIdle q).counters = s.counters := rfl
@[simp] theorem latchQueueIdle_memory : (s.latchQueueIdle q).memory = s.memory := rfl
@[simp] theorem latchQueueIdle_port : (s.latchQueueIdle q).port = s.port := rfl
@[simp] theorem latchQueueIdle_settings : (s.latchQueueIdle q).settings = s.settings := rfl
@[simp] theorem latchQueueIdle_pending : (s.latchQueueIdle q).pending = s.pending := rfl
end

section
variable (s : State)
@[simp] theorem latchQuietEntered_straps : (s.latchQuietEntered).straps = s.straps := rfl
@[simp] theorem latchQuietEntered_rst : (s.latchQuietEntered).rst = s.rst := rfl
@[simp] theorem latchQuietEntered_trunk : (s.latchQuietEntered).trunk = s.trunk := rfl
@[simp] theorem latchQuietEntered_claim : (s.latchQuietEntered).claim = s.claim := rfl
@[simp] theorem latchQuietEntered_peers : (s.latchQuietEntered).peers = s.peers := rfl
@[simp] theorem latchQuietEntered_store : (s.latchQuietEntered).store = s.store := rfl
@[simp] theorem latchQuietEntered_queues : (s.latchQuietEntered).queues = s.queues := rfl
@[simp] theorem latchQuietEntered_inboxes : (s.latchQuietEntered).inboxes = s.inboxes := rfl
@[simp] theorem latchQuietEntered_words : (s.latchQuietEntered).words = s.words := rfl
@[simp] theorem latchQuietEntered_log : (s.latchQuietEntered).log = s.log := rfl
@[simp] theorem latchQuietEntered_attention : (s.latchQuietEntered).attention = { s.attention with quietEntered := true } := rfl
@[simp] theorem latchQuietEntered_counters : (s.latchQuietEntered).counters = s.counters := rfl
@[simp] theorem latchQuietEntered_memory : (s.latchQuietEntered).memory = s.memory := rfl
@[simp] theorem latchQuietEntered_port : (s.latchQuietEntered).port = s.port := rfl
@[simp] theorem latchQuietEntered_settings : (s.latchQuietEntered).settings = s.settings := rfl
@[simp] theorem latchQuietEntered_pending : (s.latchQuietEntered).pending = s.pending := rfl
end

section
variable (s : State)
@[simp] theorem latchLineStuck_straps : (s.latchLineStuck).straps = s.straps := rfl
@[simp] theorem latchLineStuck_rst : (s.latchLineStuck).rst = s.rst := rfl
@[simp] theorem latchLineStuck_trunk : (s.latchLineStuck).trunk = s.trunk := rfl
@[simp] theorem latchLineStuck_claim : (s.latchLineStuck).claim = s.claim := rfl
@[simp] theorem latchLineStuck_peers : (s.latchLineStuck).peers = s.peers := rfl
@[simp] theorem latchLineStuck_store : (s.latchLineStuck).store = s.store := rfl
@[simp] theorem latchLineStuck_queues : (s.latchLineStuck).queues = s.queues := rfl
@[simp] theorem latchLineStuck_inboxes : (s.latchLineStuck).inboxes = s.inboxes := rfl
@[simp] theorem latchLineStuck_words : (s.latchLineStuck).words = s.words := rfl
@[simp] theorem latchLineStuck_log : (s.latchLineStuck).log = s.log := rfl
@[simp] theorem latchLineStuck_attention : (s.latchLineStuck).attention = { s.attention with lineStuck := true } := rfl
@[simp] theorem latchLineStuck_counters : (s.latchLineStuck).counters = s.counters := rfl
@[simp] theorem latchLineStuck_memory : (s.latchLineStuck).memory = s.memory := rfl
@[simp] theorem latchLineStuck_port : (s.latchLineStuck).port = s.port := rfl
@[simp] theorem latchLineStuck_settings : (s.latchLineStuck).settings = s.settings := rfl
@[simp] theorem latchLineStuck_pending : (s.latchLineStuck).pending = s.pending := rfl
end

section
variable (s : State) (x : LineState)
@[simp] theorem setLine_straps : (s.setLine x).straps = s.straps := rfl
@[simp] theorem setLine_rst : (s.setLine x).rst = s.rst := rfl
@[simp] theorem setLine_trunk : (s.setLine x).trunk = { s.trunk with line := x } := rfl
@[simp] theorem setLine_claim : (s.setLine x).claim = s.claim := rfl
@[simp] theorem setLine_peers : (s.setLine x).peers = s.peers := rfl
@[simp] theorem setLine_store : (s.setLine x).store = s.store := rfl
@[simp] theorem setLine_queues : (s.setLine x).queues = s.queues := rfl
@[simp] theorem setLine_inboxes : (s.setLine x).inboxes = s.inboxes := rfl
@[simp] theorem setLine_words : (s.setLine x).words = s.words := rfl
@[simp] theorem setLine_log : (s.setLine x).log = s.log := rfl
@[simp] theorem setLine_attention : (s.setLine x).attention = s.attention := rfl
@[simp] theorem setLine_counters : (s.setLine x).counters = s.counters := rfl
@[simp] theorem setLine_memory : (s.setLine x).memory = s.memory := rfl
@[simp] theorem setLine_port : (s.setLine x).port = s.port := rfl
@[simp] theorem setLine_settings : (s.setLine x).settings = s.settings := rfl
@[simp] theorem setLine_pending : (s.setLine x).pending = s.pending := rfl
end

section
variable (s : State) (x : TrunkState)
@[simp] theorem setTrunkState_straps : (s.setTrunkState x).straps = s.straps := rfl
@[simp] theorem setTrunkState_rst : (s.setTrunkState x).rst = s.rst := rfl
@[simp] theorem setTrunkState_trunk : (s.setTrunkState x).trunk = s.trunk := rfl
@[simp] theorem setTrunkState_claim : (s.setTrunkState x).claim = { s.claim with state := x } := rfl
@[simp] theorem setTrunkState_peers : (s.setTrunkState x).peers = s.peers := rfl
@[simp] theorem setTrunkState_store : (s.setTrunkState x).store = s.store := rfl
@[simp] theorem setTrunkState_queues : (s.setTrunkState x).queues = s.queues := rfl
@[simp] theorem setTrunkState_inboxes : (s.setTrunkState x).inboxes = s.inboxes := rfl
@[simp] theorem setTrunkState_words : (s.setTrunkState x).words = s.words := rfl
@[simp] theorem setTrunkState_log : (s.setTrunkState x).log = s.log := rfl
@[simp] theorem setTrunkState_attention : (s.setTrunkState x).attention = s.attention := rfl
@[simp] theorem setTrunkState_counters : (s.setTrunkState x).counters = s.counters := rfl
@[simp] theorem setTrunkState_memory : (s.setTrunkState x).memory = s.memory := rfl
@[simp] theorem setTrunkState_port : (s.setTrunkState x).port = s.port := rfl
@[simp] theorem setTrunkState_settings : (s.setTrunkState x).settings = s.settings := rfl
@[simp] theorem setTrunkState_pending : (s.setTrunkState x).pending = s.pending := rfl
end

section
variable (s : State) (x : Station)
@[simp] theorem setLastWinner_straps : (s.setLastWinner x).straps = s.straps := rfl
@[simp] theorem setLastWinner_rst : (s.setLastWinner x).rst = s.rst := rfl
@[simp] theorem setLastWinner_trunk : (s.setLastWinner x).trunk = s.trunk := rfl
@[simp] theorem setLastWinner_claim : (s.setLastWinner x).claim = { s.claim with lastWinner := x } := rfl
@[simp] theorem setLastWinner_peers : (s.setLastWinner x).peers = s.peers := rfl
@[simp] theorem setLastWinner_store : (s.setLastWinner x).store = s.store := rfl
@[simp] theorem setLastWinner_queues : (s.setLastWinner x).queues = s.queues := rfl
@[simp] theorem setLastWinner_inboxes : (s.setLastWinner x).inboxes = s.inboxes := rfl
@[simp] theorem setLastWinner_words : (s.setLastWinner x).words = s.words := rfl
@[simp] theorem setLastWinner_log : (s.setLastWinner x).log = s.log := rfl
@[simp] theorem setLastWinner_attention : (s.setLastWinner x).attention = s.attention := rfl
@[simp] theorem setLastWinner_counters : (s.setLastWinner x).counters = s.counters := rfl
@[simp] theorem setLastWinner_memory : (s.setLastWinner x).memory = s.memory := rfl
@[simp] theorem setLastWinner_port : (s.setLastWinner x).port = s.port := rfl
@[simp] theorem setLastWinner_settings : (s.setLastWinner x).settings = s.settings := rfl
@[simp] theorem setLastWinner_pending : (s.setLastWinner x).pending = s.pending := rfl
end

section
variable (s : State)
@[simp] theorem countInvalid_straps : (s.countInvalid).straps = s.straps := by unfold State.countInvalid; split <;> rfl
@[simp] theorem countInvalid_rst : (s.countInvalid).rst = s.rst := by unfold State.countInvalid; split <;> rfl
@[simp] theorem countInvalid_trunk : (s.countInvalid).trunk = s.trunk := by unfold State.countInvalid; split <;> rfl
@[simp] theorem countInvalid_claim : (s.countInvalid).claim = s.claim := by unfold State.countInvalid; split <;> rfl
@[simp] theorem countInvalid_peers : (s.countInvalid).peers = s.peers := by unfold State.countInvalid; split <;> rfl
@[simp] theorem countInvalid_store : (s.countInvalid).store = s.store := by unfold State.countInvalid; split <;> rfl
@[simp] theorem countInvalid_queues : (s.countInvalid).queues = s.queues := by unfold State.countInvalid; split <;> rfl
@[simp] theorem countInvalid_inboxes : (s.countInvalid).inboxes = s.inboxes := by unfold State.countInvalid; split <;> rfl
@[simp] theorem countInvalid_words : (s.countInvalid).words = s.words := by unfold State.countInvalid; split <;> rfl
@[simp] theorem countInvalid_log : (s.countInvalid).log = s.log := by unfold State.countInvalid; split <;> rfl
@[simp] theorem countInvalid_attention : (s.countInvalid).attention = s.attention := by unfold State.countInvalid; split <;> rfl
@[simp] theorem countInvalid_memory : (s.countInvalid).memory = s.memory := by unfold State.countInvalid; split <;> rfl
@[simp] theorem countInvalid_port : (s.countInvalid).port = s.port := by unfold State.countInvalid; split <;> rfl
@[simp] theorem countInvalid_settings : (s.countInvalid).settings = s.settings := by unfold State.countInvalid; split <;> rfl
@[simp] theorem countInvalid_pending : (s.countInvalid).pending = s.pending := by unfold State.countInvalid; split <;> rfl
end

section
variable (s : State)
@[simp] theorem countCollision_straps : (s.countCollision).straps = s.straps := by unfold State.countCollision; split <;> rfl
@[simp] theorem countCollision_rst : (s.countCollision).rst = s.rst := by unfold State.countCollision; split <;> rfl
@[simp] theorem countCollision_trunk : (s.countCollision).trunk = s.trunk := by unfold State.countCollision; split <;> rfl
@[simp] theorem countCollision_claim : (s.countCollision).claim = s.claim := by unfold State.countCollision; split <;> rfl
@[simp] theorem countCollision_peers : (s.countCollision).peers = s.peers := by unfold State.countCollision; split <;> rfl
@[simp] theorem countCollision_store : (s.countCollision).store = s.store := by unfold State.countCollision; split <;> rfl
@[simp] theorem countCollision_queues : (s.countCollision).queues = s.queues := by unfold State.countCollision; split <;> rfl
@[simp] theorem countCollision_inboxes : (s.countCollision).inboxes = s.inboxes := by unfold State.countCollision; split <;> rfl
@[simp] theorem countCollision_words : (s.countCollision).words = s.words := by unfold State.countCollision; split <;> rfl
@[simp] theorem countCollision_log : (s.countCollision).log = s.log := by unfold State.countCollision; split <;> rfl
@[simp] theorem countCollision_attention : (s.countCollision).attention = s.attention := by unfold State.countCollision; split <;> rfl
@[simp] theorem countCollision_memory : (s.countCollision).memory = s.memory := by unfold State.countCollision; split <;> rfl
@[simp] theorem countCollision_port : (s.countCollision).port = s.port := by unfold State.countCollision; split <;> rfl
@[simp] theorem countCollision_settings : (s.countCollision).settings = s.settings := by unfold State.countCollision; split <;> rfl
@[simp] theorem countCollision_pending : (s.countCollision).pending = s.pending := by unfold State.countCollision; split <;> rfl
end

section
variable (s : State)
@[simp] theorem countNoReply_straps : (s.countNoReply).straps = s.straps := by unfold State.countNoReply; split <;> rfl
@[simp] theorem countNoReply_rst : (s.countNoReply).rst = s.rst := by unfold State.countNoReply; split <;> rfl
@[simp] theorem countNoReply_trunk : (s.countNoReply).trunk = s.trunk := by unfold State.countNoReply; split <;> rfl
@[simp] theorem countNoReply_claim : (s.countNoReply).claim = s.claim := by unfold State.countNoReply; split <;> rfl
@[simp] theorem countNoReply_peers : (s.countNoReply).peers = s.peers := by unfold State.countNoReply; split <;> rfl
@[simp] theorem countNoReply_store : (s.countNoReply).store = s.store := by unfold State.countNoReply; split <;> rfl
@[simp] theorem countNoReply_queues : (s.countNoReply).queues = s.queues := by unfold State.countNoReply; split <;> rfl
@[simp] theorem countNoReply_inboxes : (s.countNoReply).inboxes = s.inboxes := by unfold State.countNoReply; split <;> rfl
@[simp] theorem countNoReply_words : (s.countNoReply).words = s.words := by unfold State.countNoReply; split <;> rfl
@[simp] theorem countNoReply_log : (s.countNoReply).log = s.log := by unfold State.countNoReply; split <;> rfl
@[simp] theorem countNoReply_attention : (s.countNoReply).attention = s.attention := by unfold State.countNoReply; split <;> rfl
@[simp] theorem countNoReply_memory : (s.countNoReply).memory = s.memory := by unfold State.countNoReply; split <;> rfl
@[simp] theorem countNoReply_port : (s.countNoReply).port = s.port := by unfold State.countNoReply; split <;> rfl
@[simp] theorem countNoReply_settings : (s.countNoReply).settings = s.settings := by unfold State.countNoReply; split <;> rfl
@[simp] theorem countNoReply_pending : (s.countNoReply).pending = s.pending := by unfold State.countNoReply; split <;> rfl
end

section
variable (s : State)
@[simp] theorem countDrop_straps : (s.countDrop).straps = s.straps := by unfold State.countDrop; split <;> rfl
@[simp] theorem countDrop_rst : (s.countDrop).rst = s.rst := by unfold State.countDrop; split <;> rfl
@[simp] theorem countDrop_trunk : (s.countDrop).trunk = s.trunk := by unfold State.countDrop; split <;> rfl
@[simp] theorem countDrop_claim : (s.countDrop).claim = s.claim := by unfold State.countDrop; split <;> rfl
@[simp] theorem countDrop_peers : (s.countDrop).peers = s.peers := by unfold State.countDrop; split <;> rfl
@[simp] theorem countDrop_store : (s.countDrop).store = s.store := by unfold State.countDrop; split <;> rfl
@[simp] theorem countDrop_queues : (s.countDrop).queues = s.queues := by unfold State.countDrop; split <;> rfl
@[simp] theorem countDrop_inboxes : (s.countDrop).inboxes = s.inboxes := by unfold State.countDrop; split <;> rfl
@[simp] theorem countDrop_words : (s.countDrop).words = s.words := by unfold State.countDrop; split <;> rfl
@[simp] theorem countDrop_log : (s.countDrop).log = s.log := by unfold State.countDrop; split <;> rfl
@[simp] theorem countDrop_attention : (s.countDrop).attention = s.attention := by unfold State.countDrop; split <;> rfl
@[simp] theorem countDrop_memory : (s.countDrop).memory = s.memory := by unfold State.countDrop; split <;> rfl
@[simp] theorem countDrop_port : (s.countDrop).port = s.port := by unfold State.countDrop; split <;> rfl
@[simp] theorem countDrop_settings : (s.countDrop).settings = s.settings := by unfold State.countDrop; split <;> rfl
@[simp] theorem countDrop_pending : (s.countDrop).pending = s.pending := by unfold State.countDrop; split <;> rfl
end

/-! ### Reading an element after an update -/

@[simp] theorem put_getElem {α : Type} {n : Nat} (v : Vector α n) (i : Fin n) (x : α) (j : Nat)
    (h : j < n) : (put v i x)[j] = if i.val = j then x else v[j] := by
  simp [put, Vector.getElem_set]

theorem put_get {α : Type} {n : Nat} (v : Vector α n) (i j : Fin n) (x : α) :
    (put v i x)[j] = if i = j then x else v[j] := by
  simp [Fin.ext_iff]

theorem put_get_self {α : Type} {n : Nat} (v : Vector α n) (i : Fin n) (x : α) : (put v i x)[i] = x := by
  simp

theorem put_get_ne {α : Type} {n : Nat} (v : Vector α n) {i j : Fin n} (x : α) (h : i ≠ j) :
    (put v i x)[j] = v[j] := by
  rw [put_get, if_neg h]

@[simp] theorem mapTable_getElem {α β : Type} {n : Nat} (f : Fin n → α → β) (v : Vector α n) (j : Nat)
    (h : j < n) : (mapTable f v)[j] = f ⟨j, h⟩ v[j] := by
  simp [mapTable]

theorem mapTable_get {α β : Type} {n : Nat} (f : Fin n → α → β) (v : Vector α n) (j : Fin n) :
    (mapTable f v)[j] = f j v[j] := by
  simp

section
variable (s : State)

theorem setQueue_queue (q r : QueueIx) (x : QueueState) :
    (s.setQueue q x).queue r = if q = r then x else s.queue r := put_get ..

theorem setInbox_inbox (i j : InboxIx) (x : Inbox) :
    (s.setInbox i x).inbox j = if i = j then x else s.inbox j := put_get ..

theorem setWord_word (w v : WordIx) (x : NoticeWord) :
    (s.setWord w x).word v = if w = v then x else s.word v := put_get ..

theorem setDesc_desc (d e : DescIx) (x : Descriptor) :
    (s.setDesc d x).desc e = if d = e then x else s.desc e := put_get ..

theorem setFanout_fanout (n m : ListIx) (l : List Station) :
    (s.setFanout n l).fanout m = if n = m then l else s.fanout m := put_get ..

theorem setPeer_peer (p r : Station) (x : PeerEntry) :
    (s.setPeer p x).peer r = if p = r then x else s.peer r := put_get ..

theorem setSendPair_sendPair (p r : Station) (i j : InboxIx) (x : SendPair) :
    (s.setSendPair p i x).sendPair r j = if p = r ∧ i = j then x else s.sendPair r j := by
  unfold State.setSendPair State.sendPair
  rw [setPeer_peer]
  by_cases hp : p = r
  · subst hp
    rw [if_pos rfl, put_get]
    by_cases hi : i = j <;> simp [hi]
  · simp [hp]

theorem setHint_hint (p r : Station) (i j : InboxIx) (x : Option Offer) :
    (s.setHint p i x).hint r j = if p = r ∧ i = j then x else s.hint r j := by
  unfold State.setHint State.hint
  rw [setPeer_peer]
  by_cases hp : p = r
  · subst hp
    rw [if_pos rfl, put_get]
    by_cases hi : i = j <;> simp [hi]
  · simp [hp]

theorem setReceivePair_receivePair (p r : Station) (i j : InboxIx) (x : Option Seq) :
    (s.setReceivePair p i x).receivePair r j = if p = r ∧ i = j then x else s.receivePair r j := by
  unfold State.setReceivePair State.receivePair
  rw [setPeer_peer]
  by_cases hp : p = r
  · subst hp
    rw [if_pos rfl, put_get]
    by_cases hi : i = j <;> simp [hi]
  · simp [hp]

theorem setHint_sendPair (p r : Station) (i j : InboxIx) (x : Option Offer) :
    (s.setHint p i x).sendPair r j = s.sendPair r j := by
  unfold State.setHint State.sendPair
  rw [setPeer_peer]
  by_cases hp : p = r
  · subst hp; rw [if_pos rfl]
  · rw [if_neg hp]

theorem setSendPair_hint (p r : Station) (i j : InboxIx) (x : SendPair) :
    (s.setSendPair p i x).hint r j = s.hint r j := by
  unfold State.setSendPair State.hint
  rw [setPeer_peer]
  by_cases hp : p = r
  · subst hp; rw [if_pos rfl]
  · rw [if_neg hp]

end

end Sys2Proof.Machine
end

