-- ==== Sys2Proof/Laws/Engine.lean ====
section
/-!
SUPPORT. What the send engine can touch. Its operations change send pair records, hints, part fields of
descriptors, queues, the log and the QUEUE_IDLE latches; `EngineKeeps` says what they leave, and one lemma
for each operation says that the operation leaves it.
-/

namespace Sys2Proof.Machine

/-- Everything the send engine leaves as it is: the other blocks whole, and of the blocks it works on the
parts that are not its own. -/
structure EngineKeeps (s t : State) : Prop where
  straps : t.straps = s.straps
  rst : t.rst = s.rst
  trunk : t.trunk = s.trunk
  claim : t.claim = s.claim
  inboxes : t.inboxes = s.inboxes
  words : t.words = s.words
  counters : t.counters = s.counters
  memory : t.memory = s.memory
  port : t.port = s.port
  settings : t.settings = s.settings
  pending : t.pending = s.pending
  lists : t.store.lists = s.store.lists
  host : ∀ d, (t.desc d).host = (s.desc d).host
  peer : ∀ p, (t.peer p).state = (s.peer p).state ∧ (t.peer p).epoch = (s.peer p).epoch ∧
    (t.peer p).silence = (s.peer p).silence ∧ (t.peer p).receive = (s.peer p).receive
  presence : t.peers.presenceTimer = s.peers.presenceTimer ∧ t.peers.presenceDue = s.peers.presenceDue
  latches : t.attention = { s.attention with queueIdle := t.attention.queueIdle }
  idle : ∀ q : QueueIx, s.attention.queueIdle[q] = true → t.attention.queueIdle[q] = true

namespace EngineKeeps

theorem refl (s : State) : EngineKeeps s s := by
  constructor <;> simp

theorem trans {s t u : State} (h : EngineKeeps s t) (k : EngineKeeps t u) : EngineKeeps s u where
  straps := k.straps.trans h.straps
  rst := k.rst.trans h.rst
  trunk := k.trunk.trans h.trunk
  claim := k.claim.trans h.claim
  inboxes := k.inboxes.trans h.inboxes
  words := k.words.trans h.words
  counters := k.counters.trans h.counters
  memory := k.memory.trans h.memory
  port := k.port.trans h.port
  settings := k.settings.trans h.settings
  pending := k.pending.trans h.pending
  lists := k.lists.trans h.lists
  host d := (k.host d).trans (h.host d)
  peer p := ⟨(k.peer p).1.trans (h.peer p).1, (k.peer p).2.1.trans (h.peer p).2.1,
    (k.peer p).2.2.1.trans (h.peer p).2.2.1, (k.peer p).2.2.2.trans (h.peer p).2.2.2⟩
  presence := ⟨k.presence.1.trans h.presence.1, k.presence.2.trans h.presence.2⟩
  latches := by rw [k.latches, h.latches]
  idle q hq := k.idle q (h.idle q hq)

end EngineKeeps

variable (s : State)

/-! ### The updates the engine is made of -/

theorem setQueue_keeps (q : QueueIx) (x : QueueState) : EngineKeeps s (s.setQueue q x) := by
  constructor <;> simp [State.desc, State.peer]

theorem setLog_keeps (l : List CompletionRecord) : EngineKeeps s (s.setLog l) := by
  constructor <;> simp [State.desc, State.peer]

theorem latchQueueIdle_keeps (q : QueueIx) : EngineKeeps s (s.latchQueueIdle q) := by
  constructor <;> simp +contextual [State.desc, State.peer]

theorem setDesc_keeps (d : DescIx) (x : Descriptor) (h : x.host = (s.desc d).host) :
    EngineKeeps s (s.setDesc d x) := by
  constructor <;> try simp [State.peer]
  intro e
  rw [setDesc_desc]
  split
  · next hd => rw [h, hd]
  · rfl

theorem setPeer_keeps (p : Station) (x : PeerEntry)
    (h : x.state = (s.peer p).state ∧ x.epoch = (s.peer p).epoch ∧ x.silence = (s.peer p).silence ∧
      x.receive = (s.peer p).receive) : EngineKeeps s (s.setPeer p x) := by
  constructor <;> try simp [State.desc]
  intro r
  rw [setPeer_peer]
  split
  · next hp => subst hp; simpa using h
  · simp

theorem setSendPair_keeps (p : Station) (i : InboxIx) (x : SendPair) :
    EngineKeeps s (s.setSendPair p i x) := setPeer_keeps s p _ ⟨rfl, rfl, rfl, rfl⟩

theorem setHint_keeps (p : Station) (i : InboxIx) (x : Option Offer) :
    EngineKeeps s (s.setHint p i x) := setPeer_keeps s p _ ⟨rfl, rfl, rfl, rfl⟩

/-! ### The lock and the beginning of steps -/

theorem readHint_keeps (q : QueueIx) (c : Context) (p : Station) (i : InboxIx) :
    EngineKeeps s (s.readHint q c p i) := by
  unfold State.readHint; split <;> exact setQueue_keeps ..

theorem continueStep_keeps (q : QueueIx) (c : Context) : EngineKeeps s (s.continueStep q c) := by
  unfold State.continueStep; split
  · exact readHint_keeps ..
  · exact setQueue_keeps ..

theorem setLock_keeps (p : Station) (i : InboxIx) (l : Option QueueIx) :
    EngineKeeps s (s.setLock p i l) := setSendPair_keeps ..

theorem releaseLock_keeps (q : QueueIx) (p : Station) (i : InboxIx) :
    EngineKeeps s (s.releaseLock q p i) := by
  unfold State.releaseLock; split
  · exact (setLock_keeps ..).trans (readHint_keeps ..)
  · exact setLock_keeps ..

theorem takeLock_keeps (q : QueueIx) (c : Context) (p : Station) (i : InboxIx) :
    EngineKeeps s (s.takeLock q c p i) := by
  unfold State.takeLock; split
  · exact (setLock_keeps ..).trans (readHint_keeps ..)
  · exact setQueue_keeps ..

theorem beginStep_keeps (q : QueueIx) (c : Context) : EngineKeeps s (s.beginStep q c) := by
  unfold State.beginStep; split
  · exact takeLock_keeps ..
  · exact setQueue_keeps ..

/-- The state a beginning of steps leads to. -/
def Progress.state : Progress → State
  | .underWay s => s
  | .decided _ s => s

theorem beginSteps_keeps (q : QueueIx) (c : Context) (left : Nat) :
    EngineKeeps s (s.beginSteps q c left).state := by
  induction left generalizing c with
  | zero =>
    simp only [State.beginSteps]; split
    · exact .refl s
    · exact beginStep_keeps ..
  | succ n ih =>
    simp only [State.beginSteps]; split
    · exact ih _
    · exact beginStep_keeps ..

/-! ### Settlement and the chain -/

theorem writeBack_keeps (c : Context) : EngineKeeps s (s.writeBack c) := setDesc_keeps _ _ _ rfl

theorem appendRecord_keeps (r : CompletionRecord) : EngineKeeps s (s.appendRecord r) := setLog_keeps ..

theorem handBack_keeps (q : QueueIx) (c : Context) : EngineKeeps s (s.handBack q c) := by
  unfold State.handBack; split
  · exact (writeBack_keeps ..).trans (appendRecord_keeps ..)
  · exact writeBack_keeps ..

theorem enterWaiting_keeps (q : QueueIx) (st : QueueState) : EngineKeeps s (s.enterWaiting q st) := by
  unfold State.enterWaiting; split
  · exact setQueue_keeps ..
  · exact (setQueue_keeps ..).trans (latchQueueIdle_keeps ..)

theorem takeDescriptor_keeps (q : QueueIx) (d : DescIx) :
    EngineKeeps s (s.takeDescriptor q d).state := by
  have h : EngineKeeps s ((s.setDesc d { s.desc d with holder := some q }).setQueue q
      (.running (s.newContext d))) :=
    (setDesc_keeps s d { s.desc d with holder := some q } rfl).trans (setQueue_keeps ..)
  unfold State.takeDescriptor; dsimp only; split
  · exact h.trans (beginSteps_keeps ..)
  · exact h

theorem arrive_keeps (q : QueueIx) (d : DescIx) (fuel : Nat) : EngineKeeps s (s.arrive q d fuel) := by
  induction fuel generalizing s d with
  | zero => exact enterWaiting_keeps ..
  | succ n ih =>
    have h := takeDescriptor_keeps s q d
    unfold State.arrive; split
    · split <;> rename_i heq <;> rw [heq] at h
      · exact h
      · split
        · exact h.trans (setQueue_keeps ..)
        · have k := h.trans (handBack_keeps _ q ‹Context›)
          dsimp only; split
          · exact k.trans (enterWaiting_keeps ..)
          · exact k.trans (ih _ _)
    · exact enterWaiting_keeps ..

theorem followLink_keeps (q : QueueIx) (d : DescIx) : EngineKeeps s (s.followLink q d) := by
  unfold State.followLink; split
  · exact enterWaiting_keeps ..
  · exact arrive_keeps ..

theorem settle_keeps (q : QueueIx) (c : Context) (stopping : Bool) :
    EngineKeeps s (s.settle q c stopping) := by
  unfold State.settle; split
  · exact setQueue_keeps ..
  · dsimp only; split
    · exact (handBack_keeps ..).trans (setQueue_keeps ..)
    · exact (handBack_keeps ..).trans (followLink_keeps ..)

/-! ### The end of a step -/

theorem raiseBlind_keeps (c : Context) : EngineKeeps s (s.raiseBlind c) := by
  unfold State.raiseBlind; split
  · split
    · exact setSendPair_keeps ..
    · exact .refl s
  · exact .refl s

theorem dropLock_keeps (q : QueueIx) (c : Context) : EngineKeeps s (s.dropLock q c) := by
  unfold State.dropLock; split
  · split
    · exact releaseLock_keeps ..
    · exact .refl s
  · exact .refl s

theorem endStep_keeps (q : QueueIx) (c : Context) (stopping : Bool) (o : Outcome) :
    EngineKeeps s (s.endStep q c stopping o) := by
  have h := (raiseBlind_keeps s c).trans (dropLock_keeps _ q c)
  unfold State.endStep; dsimp only; split
  · exact h.trans (settle_keeps ..)
  · have k := h.trans (beginSteps_keeps _ q { c.ended o with current := (c.ended o).current + 1 }
      ((c.ended o).left - 1))
    split <;> rename_i heq <;> rw [heq] at k
    · exact k
    · exact k.trans (settle_keeps ..)

/-! ### Findings and replies -/

theorem frameNotSent_keeps (q : QueueIx) : EngineKeeps s (s.frameNotSent q) := by
  unfold State.frameNotSent; split
  · exact setQueue_keeps ..
  · exact endStep_keeps ..
  · exact .refl s

theorem reanchor_keeps (c : Context) (p : Station) (i : InboxIx) (f : ReplyFields) :
    EngineKeeps s (s.reanchor c p i f).1 := setSendPair_keeps ..

theorem dataDelivered_keeps (q : QueueIx) (c : Context) (stopping : Bool) (p : Station) (i : InboxIx)
    (f : ReplyFields) : EngineKeeps s (s.dataDelivered q c stopping p i f) :=
  ((setSendPair_keeps ..).trans (setHint_keeps ..)).trans (endStep_keeps ..)

theorem dataOutOfStep_keeps (q : QueueIx) (c : Context) (stopping : Bool) (p : Station) (i : InboxIx)
    (f : ReplyFields) : EngineKeeps s (s.dataOutOfStep q c stopping p i f) := by
  have h := (reanchor_keeps s c p i f).trans (setHint_keeps _ p i (some f.offer))
  unfold State.dataOutOfStep; dsimp only; split
  · exact h.trans (endStep_keeps ..)
  · exact h.trans (continueStep_keeps ..)

theorem dataFull_keeps (q : QueueIx) (c : Context) (stopping : Bool) (p : Station) (i : InboxIx)
    (f : ReplyFields) : EngineKeeps s (s.dataFull q c stopping p i f) := by
  have h := (reanchor_keeps s c p i f).trans (setHint_keeps _ p i (some f.offer))
  unfold State.dataFull; dsimp only; split
  · exact h.trans (endStep_keeps ..)
  · split
    · exact h.trans (endStep_keeps ..)
    · exact h.trans (setQueue_keeps ..)

theorem dataRefused_keeps (q : QueueIx) (c : Context) (stopping : Bool) (p : Station) (i : InboxIx)
    (f : ReplyFields) (o : Outcome) : EngineKeeps s (s.dataRefused q c stopping p i f o) :=
  ((reanchor_keeps s c p i f).trans (setHint_keeps ..)).trans (endStep_keeps ..)

theorem stepState_keeps (q : QueueIx) (c : Context) (stopping : Bool) (p : Station) (i : InboxIx)
    (f : ReplyFields) : EngineKeeps s (s.stepState q c stopping p i f) := by
  have h := reanchor_keeps s c p i f
  unfold State.stepState; dsimp only; split
  · exact h.trans (endStep_keeps ..)
  · exact h.trans (continueStep_keeps ..)

theorem noReply_keeps (q : QueueIx) (c : Context) (stopping : Bool) (f : QueueFrame) :
    EngineKeeps s (s.noReply q c stopping f) := by
  unfold State.noReply; dsimp only; split
  · exact endStep_keeps ..
  · split
    · exact endStep_keeps ..
    · exact continueStep_keeps ..

theorem replyTaken_keeps (q : QueueIx) (c : Context) (stopping : Bool) (code : ReplyCode)
    (f : ReplyFields) : EngineKeeps s (s.replyTaken q c stopping code f) := by
  cases hc : c.pair with
  | none =>
    cases code <;> simp only [State.replyTaken, hc]
    all_goals first
      | exact .refl s
      | exact endStep_keeps ..
  | some pi =>
    cases code <;> simp only [State.replyTaken, hc]
    · exact dataDelivered_keeps ..
    · exact dataDelivered_keeps ..
    · exact dataFull_keeps ..
    · exact dataRefused_keeps ..
    · exact dataRefused_keeps ..
    · exact dataOutOfStep_keeps ..
    · exact stepState_keeps ..
    all_goals exact endStep_keeps ..

theorem stopQueue_keeps (q : QueueIx) : EngineKeeps s (s.stopQueue q) := by
  unfold State.stopQueue
  split
  all_goals first
    | exact .refl s
    | exact setQueue_keeps ..
    | (split
       · exact setQueue_keeps ..
       · exact endStep_keeps ..)

theorem releaseHeld_keeps (p : Station) (i : InboxIx) (offer : Offer) :
    EngineKeeps s (s.releaseHeld p i offer) := by
  unfold State.releaseHeld
  repeat' split
  all_goals first
    | exact .refl s
    | exact setQueue_keeps ..

theorem holdExpired_keeps (q : QueueIx) : EngineKeeps s (s.holdExpired q) := by
  unfold State.holdExpired
  split
  · dsimp only; split
    · exact (setQueue_keeps ..).trans (setHint_keeps ..)
    · exact setQueue_keeps ..
  · exact .refl s

theorem serveQueue_keeps (q : QueueIx) : EngineKeeps s (s.serveQueue q) := by
  unfold State.serveQueue
  split
  all_goals first
    | exact .refl s
    | exact ((writeBack_keeps ..).trans (appendRecord_keeps ..)).trans (followLink_keeps ..)
    | (split
       · exact ((writeBack_keeps ..).trans (appendRecord_keeps ..)).trans (setQueue_keeps ..)
       · exact .refl s)

theorem serveLog_keeps : EngineKeeps s s.serveLog := by
  unfold State.serveLog; split
  · exact serveQueue_keeps ..
  · exact .refl s

/-! ### Operations that also touch the reply watch and the no-reply counter -/

theorem setQueue_setTrunk_keeps (q : QueueIx) (x : QueueState) (t : TrunkInterface) :
    EngineKeeps (s.setTrunk t) ((s.setQueue q x).setTrunk t) := setQueue_keeps (s.setTrunk t) q x

/-- The clean end of a queue's frame: engine work, and the reply watch it may open. -/
theorem frameSentClean_keeps (q : QueueIx) (f : QueueFrame) :
    ∃ w, EngineKeeps (s.setTrunk { s.trunk with watch := w }) (s.frameSentClean q f) := by
  have self : EngineKeeps (s.setTrunk { s.trunk with watch := s.trunk.watch }) s := .refl s
  unfold State.frameSentClean
  split
  · split
    · exact ⟨_, self.trans (endStep_keeps ..)⟩
    all_goals
      dsimp only
      split
      · exact ⟨_, setQueue_setTrunk_keeps ..⟩
      · exact ⟨_, self.trans (setQueue_keeps ..)⟩
  · exact ⟨_, self⟩

/-- The close of a watch: the watch is gone, a missing reply is counted, and the rest is engine work. -/
theorem closeWatch_keeps (r : Option (ReplyCode × ReplyFields)) :
    EngineKeeps (if s.trunk.watch.isSome ∧ r = none then
        (s.setTrunk { s.trunk with watch := none }).countNoReply
      else s.setTrunk { s.trunk with watch := none }) (s.closeWatch r) := by
  cases hw : s.trunk.watch with
  | none =>
    have same : s.setTrunk { s.trunk with watch := none } = s := by rw [← hw]; rfl
    simp only [State.closeWatch, hw, same, Option.isSome_none, Bool.false_eq_true, false_and, if_false]
    exact .refl s
  | some w =>
    cases r with
    | none =>
      simp only [State.closeWatch, hw, Option.isSome_some, and_self, if_true]
      split
      · exact noReply_keeps ..
      · exact .refl _
    | some r =>
      simp only [State.closeWatch, hw, Option.isSome_some, reduceCtorEq, and_false, if_false]
      split
      · exact replyTaken_keeps ..
      · exact .refl _

/-- The watch's judgement of a valid frame is a close of the watch. -/
theorem judgeWatch_closes (f : Frame) : ∃ r, s.judgeWatch f = s.closeWatch r := by
  unfold State.judgeWatch
  split
  · next h => exact ⟨none, by unfold State.closeWatch; rw [h]⟩
  · exact ⟨_, rfl⟩

end Sys2Proof.Machine
end

