-- ==== Sys2Proof/Laws/Events.lean ====
section
/-!
SUPPORT. What the events of the trunk and of the clock can touch. Beside the engine's own work they change
the trunk interface, the claim unit, peer entries, inboxes, notice words, latches, counters and packet
memory; `EventKeeps` says what they all leave, and one lemma for each operation says that it leaves it.
-/

namespace Sys2Proof.Machine

/-- What no event of the trunk or of the clock changes: the straps, RST, the settings, the port, the command
queue, the event mask, the fan-out lists and the host fields of the descriptors. Latched events are only
set. -/
structure EventKeeps (s t : State) : Prop where
  straps : t.straps = s.straps
  rst : t.rst = s.rst
  settings : t.settings = s.settings
  port : t.port = s.port
  pending : t.pending = s.pending
  mask : t.attention.mask = s.attention.mask
  lists : t.store.lists = s.store.lists
  host : ∀ d, (t.desc d).host = (s.desc d).host
  peerChange : s.attention.peerChange = true → t.attention.peerChange = true
  peerRestart : s.attention.peerRestart = true → t.attention.peerRestart = true
  quietEntered : s.attention.quietEntered = true → t.attention.quietEntered = true
  lineStuck : s.attention.lineStuck = true → t.attention.lineStuck = true
  idle : ∀ q : QueueIx, s.attention.queueIdle[q] = true → t.attention.queueIdle[q] = true

namespace EventKeeps

theorem refl (s : State) : EventKeeps s s := by
  constructor <;> simp

theorem trans {s t u : State} (h : EventKeeps s t) (k : EventKeeps t u) : EventKeeps s u where
  straps := k.straps.trans h.straps
  rst := k.rst.trans h.rst
  settings := k.settings.trans h.settings
  port := k.port.trans h.port
  pending := k.pending.trans h.pending
  mask := k.mask.trans h.mask
  lists := k.lists.trans h.lists
  host d := (k.host d).trans (h.host d)
  peerChange x := k.peerChange (h.peerChange x)
  peerRestart x := k.peerRestart (h.peerRestart x)
  quietEntered x := k.quietEntered (h.quietEntered x)
  lineStuck x := k.lineStuck (h.lineStuck x)
  idle q x := k.idle q (h.idle q x)

end EventKeeps

/-- Engine work is event work. -/
theorem EngineKeeps.event {s t : State} (h : EngineKeeps s t) : EventKeeps s t where
  straps := h.straps
  rst := h.rst
  settings := h.settings
  port := h.port
  pending := h.pending
  mask := by rw [h.latches]
  lists := h.lists
  host := h.host
  peerChange := by rw [h.latches]; exact id
  peerRestart := by rw [h.latches]; exact id
  quietEntered := by rw [h.latches]; exact id
  lineStuck := by rw [h.latches]; exact id
  idle := h.idle

variable (s : State)

/-! ### The updates events are made of -/

theorem setTrunk_event (x : TrunkInterface) : EventKeeps s (s.setTrunk x) := by
  constructor <;> simp [State.desc]

theorem setClaim_event (x : ClaimUnit) : EventKeeps s (s.setClaim x) := by
  constructor <;> simp [State.desc]

theorem setPeers_event (x : PeerTable) : EventKeeps s (s.setPeers x) := by
  constructor <;> simp [State.desc]

theorem setPeer_event (p : Station) (x : PeerEntry) : EventKeeps s (s.setPeer p x) := setPeers_event ..

theorem setQueues_event (x : Vector QueueState 4) : EventKeeps s (s.setQueues x) := by
  constructor <;> simp [State.desc]

theorem setInboxes_event (x : Vector Inbox 8) : EventKeeps s (s.setInboxes x) := by
  constructor <;> simp [State.desc]

theorem setInbox_event (i : InboxIx) (x : Inbox) : EventKeeps s (s.setInbox i x) := setInboxes_event ..

theorem setWord_event (w : WordIx) (x : NoticeWord) : EventKeeps s (s.setWord w x) := by
  constructor <;> simp [State.desc]

theorem setMemory_event (x : Memory) : EventKeeps s (s.setMemory x) := by
  constructor <;> simp [State.desc]

theorem latchPeerChange_event : EventKeeps s s.latchPeerChange := by
  constructor <;> simp [State.desc]

theorem latchPeerRestart_event : EventKeeps s s.latchPeerRestart := by
  constructor <;> simp [State.desc]

theorem latchQuietEntered_event : EventKeeps s s.latchQuietEntered := by
  constructor <;> simp [State.desc]

theorem latchLineStuck_event : EventKeeps s s.latchLineStuck := by
  constructor <;> simp [State.desc]

theorem setCounters_event (x : Counters) : EventKeeps s (s.setCounters x) := by
  constructor <;> simp [State.desc]

theorem countInvalid_event : EventKeeps s s.countInvalid := by
  unfold State.countInvalid; split
  · exact setCounters_event ..
  · exact .refl s

theorem countCollision_event : EventKeeps s s.countCollision := by
  unfold State.countCollision; split
  · exact setCounters_event ..
  · exact .refl s

theorem countNoReply_event : EventKeeps s s.countNoReply := by
  unfold State.countNoReply; split
  · exact setCounters_event ..
  · exact .refl s

theorem countDrop_event : EventKeeps s s.countDrop := by
  unfold State.countDrop; split
  · exact setCounters_event ..
  · exact .refl s

/-! ### The peer table -/

theorem hear_event (p : Station) (e : Epoch) (fresh : Bool) : EventKeeps s (s.hear p e fresh) := by
  have h := setPeer_event s p ((s.peer p).heard e fresh)
  have k : EventKeeps s (if (s.peer p).state = .present then s.setPeer p ((s.peer p).heard e fresh)
      else (s.setPeer p ((s.peer p).heard e fresh)).latchPeerChange) := by
    split
    · exact h
    · exact h.trans (latchPeerChange_event _)
  unfold State.hear; dsimp only; split
  · exact k.trans ((setQueues_event ..).trans (latchPeerRestart_event _))
  · exact k

theorem observe_event (f : Frame) (own : Bool) : EventKeeps s (s.observe f own) := by
  unfold State.observe
  split
  · split
    · exact setPeers_event ..
    · exact .refl s
  · split
    · exact .refl s
    · exact hear_event ..

theorem creditHeard_event (f : Frame) (own : Bool) : EventKeeps s (s.creditHeard f own) := by
  unfold State.creditHeard
  split
  · split
    · exact .refl s
    · exact ((setHint_keeps ..).trans (releaseHeld_keeps ..)).event
  · exact .refl s

theorem silenceExpired_event (p : Station) : EventKeeps s (s.silenceExpired p) := by
  unfold State.silenceExpired; dsimp only; split
  · exact (setPeer_event ..).trans (latchPeerChange_event _)
  · exact .refl s

theorem presenceExpired_event : EventKeeps s s.presenceExpired := by
  unfold State.presenceExpired; split
  · exact setPeers_event ..
  · exact .refl s

/-! ### The inbox unit and the notice words -/

theorem compose_event (f : Frame) : EventKeeps s (s.compose f) := setTrunk_event ..

theorem acceptInto_event (i : InboxIx) (b : Buffer) (p : Station) (k : ArrivalKind) (l : List Octet)
    (q : Option Seq) : EventKeeps s (s.acceptInto i b p k l q) :=
  (setMemory_event ..).trans (setInbox_event ..)

theorem dataArrives_event (p : Station) (i : InboxIx) (seq : Seq) (l : List Octet) :
    EventKeeps s (s.dataArrives p i seq l) := by
  unfold State.dataArrives
  split
  · exact (setInbox_event s i _).trans (compose_event ..)
  · exact compose_event ..
  · exact ((acceptInto_event ..).trans (setPeer_event ..)).trans (compose_event ..)

theorem stepArrives_event (p : Station) (i : InboxIx) : EventKeeps s (s.stepArrives p i) :=
  compose_event ..

theorem bcastArrives_event (p : Station) (i : InboxIx) (l : List Octet) (active : Bool) :
    EventKeeps s (s.bcastArrives p i l active) := by
  unfold State.bcastArrives
  split
  · exact acceptInto_event ..
  · exact (setInbox_event ..).trans (countDrop_event _)

theorem noticeArrives_event (p : Station) (w : WordIx) (v : Value) :
    EventKeeps s (s.noticeArrives p w v) := by
  unfold State.noticeArrives; dsimp only; split
  · exact compose_event ..
  · exact (setWord_event ..).trans (compose_event ..)

theorem arrival_event (f : Frame) (active : Bool) : EventKeeps s (s.arrival f active) := by
  unfold State.arrival
  split
  · exact .refl s
  · split
    · exact bcastArrives_event ..
    · split
      · exact dataArrives_event ..
      · exact .refl s
    · split
      · exact stepArrives_event ..
      · exact .refl s
    · split
      · exact noticeArrives_event ..
      · exact .refl s
    all_goals exact .refl s

theorem creditSent_event (i : InboxIx) : EventKeeps s (s.creditSent i) := setInbox_event ..

/-! ### The claim unit and the transmitter -/

theorem discardReply_event : EventKeeps s s.discardReply := setTrunk_event ..

theorem enterListening_event : EventKeeps s s.enterListening := setClaim_event ..

theorem enterActive_event : EventKeeps s s.enterActive := setClaim_event ..

theorem enterOffline_event : EventKeeps s s.enterOffline :=
  (setClaim_event ..).trans (discardReply_event _)

theorem enterQuiet_event : EventKeeps s s.enterQuiet :=
  ((setClaim_event ..).trans (latchQuietEntered_event _)).trans (discardReply_event _)

theorem finishLeave_event : EventKeeps s s.finishLeave := by
  unfold State.finishLeave; split
  · exact enterOffline_event s
  · exact .refl s

theorem beginActivity_event (l : LineState) : EventKeeps s (s.beginActivity l) :=
  ((setTrunk_event ..).trans (setClaim_event ..)).trans (discardReply_event _)

theorem activityBegins_event : EventKeeps s s.activityBegins := by
  unfold State.activityBegins; split
  · exact beginActivity_event ..
  · exact .refl s

theorem keepOctets_event (l : List Octet) : EventKeeps s (s.keepOctets l) := setTrunk_event ..

theorem transmit_event (item : Item) (lead : List Octet) (a n : Nat) :
    EventKeeps s (s.transmit item lead a n) := by
  unfold State.transmit; split
  · exact (beginActivity_event s .activeTx).trans (setTrunk_event ..)
  · exact .refl s

theorem movePointer_event (q : QueueIx) : EventKeeps s (s.movePointer q) := by
  unfold State.movePointer; split <;> exact setClaim_event ..

theorem grantQueue_event (q : QueueIx) : EventKeeps s (s.grantQueue q) := by
  unfold State.grantQueue
  split
  · have h : ∀ x, EventKeeps s ((s.movePointer q).setQueue q x) := fun x =>
      (movePointer_event ..).trans (setQueue_keeps ..).event
    dsimp only
    split <;> exact (h _).trans (transmit_event ..)
  · exact .refl s

theorem grant_event (g : Grant) : EventKeeps s (s.grant g) := by
  unfold State.grant
  split
  · exact transmit_event ..
  · exact transmit_event ..
  · exact grantQueue_event ..
  · exact transmit_event ..

theorem slotBegins_event : EventKeeps s s.slotBegins := by
  unfold State.slotBegins
  split
  · split
    · exact grant_event ..
    · exact .refl s
  · exact .refl s

theorem grantUnsent_event (g : Grant) : EventKeeps s (s.grantUnsent g) := by
  unfold State.grantUnsent
  split
  · exact (movePointer_event ..).trans (frameNotSent_keeps ..).event
  all_goals exact .refl s

theorem slotOvertaken_event : EventKeeps s s.slotOvertaken := by
  unfold State.slotOvertaken
  split
  · split
    · exact (grantUnsent_event ..).trans (activityBegins_event _)
    · exact activityBegins_event s
  · exact activityBegins_event s

theorem replyBegins_event : EventKeeps s s.replyBegins := by
  unfold State.replyBegins
  split
  · exact .refl s
  · dsimp only; split
    · exact (discardReply_event s).trans (transmit_event ..)
    · exact discardReply_event s

/-! ### Findings and the end of an activity -/

theorem frameSentClean_event (q : QueueIx) (f : QueueFrame) : EventKeeps s (s.frameSentClean q f) := by
  obtain ⟨w, h⟩ := frameSentClean_keeps s q f
  exact (setTrunk_event ..).trans h.event

theorem closeWatch_event (r : Option (ReplyCode × ReplyFields)) : EventKeeps s (s.closeWatch r) := by
  refine EventKeeps.trans ?_ (closeWatch_keeps s r).event
  split
  · exact (setTrunk_event ..).trans (countNoReply_event _)
  · exact setTrunk_event ..

theorem judgeWatch_event (f : Frame) : EventKeeps s (s.judgeWatch f) := by
  obtain ⟨r, h⟩ := judgeWatch_closes s f
  rw [h]; exact closeWatch_event s r

theorem itemClean_event (item : Item) : EventKeeps s (s.itemClean item) := by
  have h : EventKeeps s (if item.claimed then s.setClaim { s.claim with collisionCount := 0 } else s) := by
    split
    · exact setClaim_event ..
    · exact .refl s
  unfold State.itemClean; dsimp only; split
  · exact h.trans (setClaim_event ..)
  · exact h.trans (creditSent_event ..)
  · exact h.trans (frameSentClean_event ..)
  all_goals exact h

theorem claimCollided_event : EventKeeps s s.claimCollided := by
  unfold State.claimCollided; dsimp only; split
  · exact (setClaim_event ..).trans (enterQuiet_event _)
  · exact setClaim_event ..

theorem itemCollided_event (item : Item) : EventKeeps s (s.itemCollided item) := by
  have h : EventKeeps s (if item.claimed then s.countCollision.claimCollided else s.countCollision) := by
    split
    · exact (countCollision_event s).trans (claimCollided_event _)
    · exact countCollision_event s
  unfold State.itemCollided; dsimp only; split
  · exact h.trans (frameNotSent_keeps ..).event
  all_goals exact h

theorem finding_event (valid : Bool) : EventKeeps s (s.finding valid) := by
  unfold State.finding
  split
  · exact .refl s
  · dsimp only; split
    · exact (setTrunk_event ..).trans (itemClean_event ..)
    · exact (setTrunk_event ..).trans (itemCollided_event ..)

theorem lineEnds_event : EventKeeps s s.lineEnds := by
  unfold State.lineEnds; dsimp only; split
  · exact ((setTrunk_event ..).trans (setClaim_event ..)).trans (finishLeave_event _)
  · exact (setTrunk_event ..).trans (setClaim_event ..)

theorem claimInvalid_event : EventKeeps s s.claimInvalid := by
  unfold State.claimInvalid; dsimp only; split
  · exact (setClaim_event s _).trans (setClaim_event ..)
  · exact setClaim_event ..

theorem claimValid_event (f : Frame) : EventKeeps s (s.claimValid f) := by
  unfold State.claimValid; dsimp only; split
  · split
    · exact (setClaim_event s _).trans (enterActive_event _)
    · exact setClaim_event ..
  · split
    · exact setClaim_event ..
    · exact .refl s

theorem invalidEnds_event (l : List Octet) : EventKeeps s (s.invalidEnds l) := by
  have h := (keepOctets_event s l).trans (lineEnds_event _)
  unfold State.invalidEnds; dsimp only; split
  · exact (((h.trans (claimInvalid_event _)).trans (countInvalid_event _)).trans
      (closeWatch_event ..)).trans (finding_event ..)
  · exact h

theorem frameReported_event (f : Frame) (active own : Bool) :
    EventKeeps s (s.frameReported f active own) := by
  have h := (claimValid_event s f).trans (observe_event _ f own)
  have k : EventKeeps s (if own then (s.claimValid f).observe f own
      else ((s.claimValid f).observe f own).arrival f active) := by
    split
    · exact h
    · exact h.trans (arrival_event ..)
  exact ((k.trans (creditHeard_event ..)).trans (judgeWatch_event ..)).trans (finding_event ..)

theorem validEnds_event (f : Frame) (l : List Octet) : EventKeeps s (s.validEnds f l) := by
  have h := (keepOctets_event s l).trans (lineEnds_event _)
  unfold State.validEnds; dsimp only; split
  · exact h.trans (frameReported_event ..)
  · exact h

theorem activityEnds_event (l : List Character) : EventKeeps s (s.activityEnds l) := by
  unfold State.activityEnds; split
  · exact validEnds_event ..
  · exact invalidEnds_event ..

theorem lineStuck_event (l : List Octet) : EventKeeps s (s.lineStuck l) := by
  have h := (keepOctets_event s l).trans (setTrunk_event _ { (s.keepOctets l).trunk with line := .stuck })
  unfold State.lineStuck; dsimp only; split
  · unfold State.stuckExchanges
    exact (((((h.trans (latchLineStuck_event _)).trans (setClaim_event ..)).trans
      (enterListening_event _)).trans (discardReply_event _)).trans (closeWatch_event ..)).trans
      (finding_event ..)
  · exact h

theorem lineReturns_event : EventKeeps s s.lineReturns := by
  unfold State.lineReturns; dsimp only; split
  · exact ((lineEnds_event s).trans (claimInvalid_event _)).trans (countInvalid_event _)
  · exact lineEnds_event s

theorem mismatchFound_event (t : Transmission) : EventKeeps s (s.mismatchFound t) :=
  (setTrunk_event ..).trans (finishLeave_event _)

/-! ### The drive (R1, R15) -/

@[simp] theorem lineCharacter_start (o : Octet) : (lineCharacter o).getLsbD 0 = false := by
  revert o; decide

@[simp] theorem lineCharacter_stop (o : Octet) : (lineCharacter o).getLsbD 9 = true := by
  revert o; decide +kernel

theorem lineCharacter_data (o : Octet) (n : Fin 8) : (lineCharacter o).getLsbD (n.val + 1) = o.getLsbD n.val := by
  revert o n; decide +kernel

@[simp] theorem TrunkDrive.ofBit_released (b : Bool) : TrunkDrive.ofBit b = .released ↔ b = true := by
  cases b <;> decide

theorem State.drive_activeTx {t : Transmission} (h : s.trunk.line = .activeTx)
    (ht : s.trunk.transmission = some t) : s.drive = t.drive := by
  simp [State.drive, h, ht]

theorem Transmission.drive_driving (t : Transmission) (h : t.phase = .driving) (hb : t.bit ≠ 0) :
    t.drive = .ofBit ((lineCharacter (t.sent.getLastD 0)).getLsbD t.bit) := by
  simp [Transmission.drive, h, hb]

end Sys2Proof.Machine
end

