-- ==== Sys2Proof/Laws/Port.lean ====
section
/-!
SUPPORT. The octets of the host commands: the fields they carry read back, a well-formed command is completed
by its octets and by no fewer, and they are read back as that command.
-/

namespace Sys2Proof.Machine

/-! ### The octets of a command -/

theorem octetsOf_length (n v : Nat) : (octetsOf n v).length = n := by
  induction n generalizing v with
  | zero => rfl
  | succ n ih => simp [octetsOf, ih]

theorem octetsValue_octetsOf (n v : Nat) : octetsValue (octetsOf n v) = v % 256 ^ n := by
  induction n generalizing v with
  | zero => simp [octetsOf, octetsValue, Nat.mod_one]
  | succ n ih =>
    have : (octet v).toNat = v % 256 := BitVec.toNat_ofNat ..
    rw [octetsOf, octetsValue, ih, this, Nat.pow_succ', Nat.mod_mul]

/-- A run that no shorter run completes before it completes the command. -/
theorem splitCommand_whole {held l : List Octet} (hl : l ≠ [])
    (hpre : ∀ n, 1 ≤ n → n < l.length → commandComplete (held ++ l.take n) = false)
    (hall : commandComplete (held ++ l) = true) : splitCommand held l = some (held ++ l, []) := by
  induction l generalizing held with
  | nil => exact absurd rfl hl
  | cons o rest ih =>
    unfold splitCommand
    cases rest with
    | nil => rw [if_pos (by simpa using hall)]
    | cons o' rest' =>
      have h1 := hpre 1 (by omega) (by simp)
      rw [if_neg (by simpa using h1)]
      have := ih (held := held ++ [o]) (by simp)
        (fun n hn hn' => by simpa using hpre (n + 1) (by omega) (by simpa using hn'))
        (by simpa using hall)
      simpa using this

/-- The same for a command code with its parameters. -/
theorem splitCommand_code {code : Octet} {params : List Octet}
    (hpre : ∀ k < params.length, parameterCount code (params.take k) ≠ some k)
    (hall : parameterCount code params = some params.length) :
    splitCommand [] (code :: params) = some (code :: params, []) := by
  refine splitCommand_whole (by simp) (fun n hn hn' => ?_) (by simp [commandComplete, hall])
  obtain ⟨k, rfl⟩ : ∃ k, n = k + 1 := ⟨n - 1, by omega⟩
  have hk : k < params.length := by simpa using hn'
  have := hpre k hk
  simp only [List.nil_append, List.take_succ_cons, commandComplete, List.length_take]
  rw [Nat.min_eq_left (by omega)]
  simpa using this

/-- The same for a code whose number of parameter octets does not depend on them. -/
theorem splitCommand_fixed {code : Octet} {params : List Octet}
    (h : ∀ l, parameterCount code l = some params.length) :
    splitCommand [] (code :: params) = some (code :: params, []) :=
  splitCommand_code (fun k hk => by rw [h]; simp; omega) (h _)

theorem halfAt_take {l : List Octet} {n k : Nat} (h : n + 1 ≤ k) :
    halfAt (l.take k) n = halfAt l n := by
  unfold halfAt octetAt
  rw [List.getD_eq_getElem?_getD, List.getD_eq_getElem?_getD, List.getD_eq_getElem?_getD,
    List.getD_eq_getElem?_getD, List.getElem?_take_of_lt (by omega), List.getElem?_take_of_lt (by omega)]

theorem halfAt_octets (pre post : List Octet) (h : Half) :
    halfAt (pre ++ octetsOf 2 h.toNat ++ post) (pre.length + 1) = h := by
  have h2 := octetsValue_octetsOf 2 h.toNat
  have : octetAt (pre ++ octetsOf 2 h.toNat ++ post) (pre.length + 1) = octet h.toNat ∧
      octetAt (pre ++ octetsOf 2 h.toNat ++ post) (pre.length + 1 + 1) = octet (h.toNat / 256) := by
    constructor <;> simp [octetAt, octetsOf, List.getD_eq_getElem?_getD]
  unfold halfAt
  rw [this.1, this.2]
  simp only [octetsOf] at h2
  rw [h2, Nat.mod_eq_of_lt (by simpa using h.isLt)]
  simp

theorem parameterCount_memWrite (l : List Octet) : parameterCount 0x10 l =
    if l.length < 4 then none else some (4 + countedOctets maxPayload (halfAt l 3).toNat) := rfl

theorem parameterCount_listWrite (l : List Octet) : parameterCount 0x23 l =
    if l.length < 2 then none else some (2 + countedOctets 8 (octetAt l 2).toNat) := rfl

/-- A code that Table 11-2 does not define is none of the codes it defines. -/
theorem undefinedCode_toNat {code : Octet} (h : code ∉ definedCodes) :
    ∀ c ∈ definedCodes, code.toNat ≠ c.toNat :=
  fun _ hc he => h (BitVec.eq_of_toNat_eq he ▸ hc)

/-- R171: such a code takes no parameters. -/
theorem undefinedCode {code : Octet} (h : code ∉ definedCodes) (l : List Octet) :
    parameterCount code l = some 0 := by
  have := undefinedCode_toNat h
  simp only [definedCodes, List.forall_mem_cons] at this
  unfold parameterCount
  split <;> first | rfl | (exfalso; simp_all)

theorem undefinedCode_command {code : Octet} (h : code ∉ definedCodes) (a : Station) (r : Fin 4)
    (n : LineLevel) : commandOf a r n [code] = .unknownCommand code := by
  have := undefinedCode_toNat h
  simp only [definedCodes, List.forall_mem_cons] at this
  simp only [commandOf]
  split <;> first | rfl | (exfalso; simp_all)

/-- The host commands: those that octets carry. -/
def isHost (c : Instr) : Bool :=
  match c with
  | .unknownCommand _ => true
  | _ => (commandCode c).isSome

/-- Whatever the octets, they are a host command. -/
theorem commandOf_isHost (a : Station) (r : Fin 4) (n : LineLevel) (l : List Octet) :
    isHost (commandOf a r n l) = true := by
  unfold commandOf; split
  · rfl
  · split <;> rfl

/-- R171: the octets of a well-formed host command complete it and no shorter run does. -/
theorem splitCommand_carriedBy {c : Instr} (hc : isHost c = true) (hw : c.wellFormed = true) :
    splitCommand [] (carriedBy c) = some (carriedBy c, []) := by
  cases c <;> simp only [isHost, commandCode, Option.isSome, Bool.false_eq_true] at hc
  case configure params =>
    have hl : params.length = 50 := by simpa [Instr.wellFormed] using hw
    exact splitCommand_fixed (code := 0x02) (params := params) fun l => by rw [hl]; rfl
  case memWrite address count data =>
    have hn : halfAt (octetsOf 2 address.toNat ++ octetsOf 2 count.toNat ++ data) 3 = count := by
      simpa [octetsOf_length] using halfAt_octets (octetsOf 2 address.toNat) data count
    have hd : countedOctets maxPayload count.toNat = data.length := by
      unfold countedOctets
      simp only [Instr.wellFormed] at hw
      split at hw <;> next h =>
        first | rw [if_pos h]; exact (beq_iff_eq.mp hw).symm
              | rw [if_neg h, List.isEmpty_iff.mp hw]; rfl
    refine splitCommand_code (code := 0x10)
      (params := octetsOf 2 address.toNat ++ octetsOf 2 count.toNat ++ data) (fun k hk => ?_) ?_
    · rw [parameterCount_memWrite, List.length_take, Nat.min_eq_left (by omega)]
      split
      · simp
      · rw [halfAt_take (by omega), hn, hd]
        simp only [List.length_append, octetsOf_length] at hk
        simp; omega
    · rw [parameterCount_memWrite, if_neg (by simp [octetsOf_length]; omega), hn, hd]
      simp [octetsOf_length]; omega
  case listWrite list count stations =>
    have hd : countedOctets 8 count.toNat = stations.length := by
      unfold countedOctets
      simp only [Instr.wellFormed] at hw
      split at hw <;> next h =>
        first | rw [if_pos h]; exact (beq_iff_eq.mp hw).symm
              | rw [if_neg h, List.isEmpty_iff.mp hw]; rfl
    refine splitCommand_code (code := 0x23) (params := list :: count :: stations) (fun k hk => ?_) ?_
    · rw [parameterCount_listWrite]
      match k with
      | 0 => simp
      | 1 => simp
      | k + 2 =>
        simp only [List.length_cons] at hk
        rw [List.length_take, if_neg (by simp), show octetAt _ 2 = count from rfl, hd]
        simp; omega
    · rw [parameterCount_listWrite, if_neg (by simp), show octetAt _ 2 = count from rfl, hd]
      simp; omega
  case unknownCommand code =>
    exact splitCommand_fixed (params := []) fun l => (undefinedCode (by simpa [Instr.wellFormed] using hw) l)
  all_goals exact splitCommand_fixed fun l => rfl

theorem value_octets (v : BitVec 32) :
    BitVec.ofNat 32 (octetsValue (octetsOf 4 v.toNat)) = v := by
  rw [octetsValue_octetsOf, Nat.mod_eq_of_lt (by simpa using v.isLt)]; simp

theorem flags_octets (v : BitVec 24) :
    BitVec.ofNat 24 (octetsValue (octetsOf 3 v.toNat)) = v := by
  rw [octetsValue_octetsOf, Nat.mod_eq_of_lt (by simpa using v.isLt)]; simp

theorem half_octets (h : Half) : BitVec.ofNat 16 (octetsValue (octetsOf 2 h.toNat)) = h := by
  rw [octetsValue_octetsOf, Nat.mod_eq_of_lt (by simpa using h.isLt)]; simp

/-- Tables 11-2 and 11-3: the octets of a well-formed host command are read back as that command. -/
theorem commandOf_carriedBy {c : Instr} (hc : isHost c = true) (hw : c.wellFormed = true) (s : State) :
    commandOf (s.sampled c).1.address (s.sampled c).1.rate (s.sampled c).2 (carriedBy c) = c := by
  cases c <;> simp only [isHost, commandCode, Option.isSome, Bool.false_eq_true] at hc
  case unknownCommand code =>
    exact undefinedCode_command (by simpa [Instr.wellFormed] using hw) ..
  case memWrite a n l =>
    exact congrArg₂ (Instr.memWrite · · l) (half_octets a) (half_octets n)
  case memRead a n => exact congrArg₂ Instr.memRead (half_octets a) (half_octets n)
  case descWrite i k d ch a n v e =>
    have ha := half_octets a; have hn := half_octets n; have hv := value_octets v
    change Instr.descWrite i k d ch (BitVec.ofNat 16 (octetsValue (octetsOf 2 a.toNat)))
      (BitVec.ofNat 16 (octetsValue (octetsOf 2 n.toNat)))
      (BitVec.ofNat 32 (octetsValue (octetsOf 4 v.toNat))) e = _
    rw [ha, hn, hv]
  case inboxPost i a n => exact congrArg₂ (Instr.inboxPost i) (half_octets a) (half_octets n)
  case eventsClear m => exact congrArg Instr.eventsClear (flags_octets m)
  case maskWrite m => exact congrArg Instr.maskWrite (flags_octets m)
  all_goals rfl

end Sys2Proof.Machine
end

