-- ==== Sys2Proof/Laws/Exec.lean ====
section
/-!
SUPPORT. What running a command comes to: the events of the trunk and of the clock keep what `EventKeeps`
says, and the octets of a host command are ignored, held, or complete a command, whose answer is then in the
port.
-/

namespace Sys2Proof.Machine

/-! ### Events -/

/-- The events of the trunk and of the clock: the commands that are neither the host's, nor an edge of SEL,
nor a hard reset. -/
def isEvent : Instr → Bool
  | .activityStart | .transmitMismatch | .transmissionComplete | .validFrameEnd _
  | .invalidActivityEnd _ | .lineFoundStuck _ | .returnToIdle | .slotBegin _ | .replyStart
  | .replyWatchTimeout | .joinQuiet | .quietTimerExpiry | .silenceTimerExpiry _ | .presenceTimerExpiry | .holdTimerExpiry _ => true
  | _ => false

/-- An event completes, and keeps what events keep. -/
theorem exec_event {c : Instr} (hc : isEvent c = true) (s : State) :
    ∃ t, exec c s = .next t ∧ EventKeeps s t := by
  cases c <;> simp only [isEvent, Bool.false_eq_true] at hc
  case activityStart => exact ⟨_, rfl, activityBegins_event s⟩
  case transmitMismatch =>
    simp only [exec, execTransmitMismatch]
    split
    · refine ⟨_, rfl, ?_⟩
      split
      · exact mismatchFound_event s _
      · exact .refl s
    · exact ⟨_, rfl, .refl s⟩
  case transmissionComplete =>
    simp only [exec, execTransmissionComplete]
    split
    · refine ⟨_, rfl, ?_⟩
      split
      · exact setTrunk_event ..
      · exact .refl s
    · exact ⟨_, rfl, .refl s⟩
  case validFrameEnd l =>
    simp only [exec, execValidFrameEnd]
    split
    · exact ⟨_, rfl, .refl s⟩
    all_goals exact ⟨_, rfl, (activityBegins_event s).trans (activityEnds_event _ l)⟩
  case invalidActivityEnd l =>
    simp only [exec, execInvalidActivityEnd]
    split
    · exact ⟨_, rfl, .refl s⟩
    all_goals exact ⟨_, rfl, (activityBegins_event s).trans (invalidEnds_event ..)⟩
  case lineFoundStuck l =>
    simp only [exec, execLineFoundStuck]
    split
    · exact ⟨_, rfl, .refl s⟩
    all_goals exact ⟨_, rfl, (activityBegins_event s).trans (lineStuck_event ..)⟩
  case returnToIdle =>
    simp only [exec, execReturnToIdle]
    split
    · exact ⟨_, rfl, lineReturns_event s⟩
    all_goals exact ⟨_, rfl, .refl s⟩
  case slotBegin b =>
    refine ⟨_, rfl, ?_⟩
    split
    · exact slotOvertaken_event s
    · exact slotBegins_event s
  case replyStart => exact ⟨_, rfl, replyBegins_event s⟩
  case replyWatchTimeout =>
    refine ⟨_, rfl, ?_⟩
    split
    · exact closeWatch_event s _
    · exact .refl s
  case joinQuiet =>
    refine ⟨_, rfl, ?_⟩
    split
    · exact (setClaim_event s _).trans (enterActive_event _)
    · exact .refl s
  case quietTimerExpiry =>
    refine ⟨_, rfl, ?_⟩
    split
    · exact enterListening_event s
    · exact .refl s
  case silenceTimerExpiry p => exact ⟨_, rfl, silenceExpired_event s p⟩
  case presenceTimerExpiry => exact ⟨_, rfl, presenceExpired_event s⟩
  case holdTimerExpiry q => exact ⟨_, rfl, (holdExpired_keeps s q).event⟩

/-! ### Host commands -/

theorem respond_done (s : State) : s.done.respond = s.answered 0x00 [] := rfl

theorem respond_data (s : State) (l : List Octet) :
    ({ state := s, status := .done, data := l } : Answer).respond = s.answered 0x00 l := rfl

theorem respond_refuse (s : State) {st : Status} (h : st ≠ .done) :
    (s.refuse st).respond = s.answered st.code [] := by
  simp [State.refuse, Answer.respond, State.answered, h]

/-- Every host command comes to its octets being clocked in. -/
theorem exec_host {c : Instr} (hc : isHost c = true) (s : State) :
    exec c s = .next (s.clockOctets c State.answer) := by
  cases c <;> simp only [isHost, commandCode, Option.isSome, Bool.false_eq_true] at hc <;> rfl

/-- A well-formed command is taken whole where the port listens. -/
theorem taken_of_listens {s : State} (h : s.listens) {c : Instr} (hc : isHost c = true)
    (hw : c.wellFormed = true) : s.taken c = some (c, []) := by
  simp only [State.taken, h.1, h.2, splitCommand_carriedBy hc hw, Option.map_some,
    commandOf_carriedBy hc hw]

/-- Then its answer stands in the port. -/
theorem exec_of_listens {s : State} (h : s.listens) {c : Instr} (hc : isHost c = true)
    (hw : c.wellFormed = true) : exec c s = .next (State.answer c s).respond := by
  rw [exec_host hc, State.clockOctets, taken_of_listens h hc hw]
  rfl

/-- Once the part is configured, or for a command of every state, that is the answer of its own rule. -/
theorem exec_performed {s : State} (h : s.listens) {c : Instr} (hc : isHost c = true)
    (hw : c.wellFormed = true) (hs : anyTime c = true ∨ s.settings.isSome = true) :
    exec c s = .next (s.perform c).respond := by
  have : (anyTime c || s.configured) = true := by simpa [State.configured] using hs
  rw [exec_of_listens h hc hw, State.answer, if_pos this]

/-- R174, item 2. -/
theorem exec_unconfigured {s : State} (h : s.listens) {c : Instr} (hc : isHost c = true)
    (hw : c.wellFormed = true) (hs : anyTime c = false) (hn : s.settings = none) :
    exec c s = .next (s.answered 0x06 []) := by
  rw [exec_of_listens h hc hw, State.answer, if_neg (by simp [hs, State.configured, hn])]
  exact congrArg _ (respond_refuse s (by decide))

/-- All a host command can come to: the octets are ignored, held, or shift out a response, or they complete a
command, which is answered. -/
theorem exec_host_cases {c : Instr} (hc : isHost c = true) (s : State) :
    (s.port.state = .idle ∧ exec c s = .next s) ∨
    (s.port.state = .command ∧ s.taken c = none ∧ exec c s = .next (s.holdOctets (carriedBy c))) ∨
    (s.port.state = .response ∧ exec c s = .next (s.shiftOut (carriedBy c).length)) ∨
    ∃ x rest, s.port.state = .command ∧ s.taken c = some (x, rest) ∧ isHost x = true ∧
      exec c s = .next ((State.answer x s).respond.shiftOut rest.length) := by
  rw [exec_host hc, State.clockOctets]
  cases hp : s.port.state with
  | idle => exact .inl ⟨rfl, by simp only [State.taken, hp]⟩
  | response => exact .inr (.inr (.inl ⟨rfl, by simp only [State.taken, hp]⟩))
  | command =>
    cases ht : s.taken c with
    | none => exact .inr (.inl ⟨rfl, rfl, rfl⟩)
    | some y =>
      refine .inr (.inr (.inr ⟨y.1, y.2, rfl, rfl, ?_, rfl⟩))
      simp only [State.taken, hp, Option.map_eq_some_iff] at ht
      obtain ⟨z, -, rfl⟩ := ht
      exact commandOf_isHost ..

/-- A property of the state with its port left out holds after a host command, if the effect of every command
that can be taken keeps it. -/
theorem exec_host_induct {P : State → Prop} {c : Instr} (hc : isHost c = true) (s : State)
    (hport : ∀ t p, P t → P (t.setPort p)) (h0 : P s)
    (hf : ∀ x, isHost x = true → (anyTime x = true ∨ s.settings.isSome = true) → P (s.perform x).state) :
    ∃ t, exec c s = .next t ∧ P t := by
  rcases exec_host_cases hc s with ⟨-, h⟩ | ⟨-, -, h⟩ | ⟨-, h⟩ | ⟨x, rest, -, -, hx, h⟩ <;>
    refine ⟨_, h, ?_⟩
  · exact h0
  · exact hport _ _ h0
  · exact hport _ _ h0
  · refine hport _ _ (hport _ _ ?_)
    unfold State.answer
    split
    · next ha => exact hf x hx (by simpa [State.configured] using ha)
    · exact h0

end Sys2Proof.Machine
end

