-- ==== Sys2Proof/Laws/Memory.lean ====
section
/-!
SUPPORT. Packet memory: reads after writes, and the canonical form, which every write keeps.
-/

namespace Sys2Proof.Machine

/-! ### One octet -/

/-- A list of cells in the canonical form lists no address below its bound. -/
theorem readCells_below {low n : Nat} {l : List Host.Cell} (h : cellsFrom low l = true) (hn : n < low) :
    readCells l n = unlistedOctet := by
  induction l generalizing low with
  | nil => rfl
  | cons c rest ih =>
    obtain ⟨a, v⟩ := c
    simp only [cellsFrom, Bool.and_eq_true, decide_eq_true_eq] at h
    have ha : a ≠ n := by omega
    simp only [readCells, if_neg ha]
    exact ih h.2 (by omega)

theorem cellsFrom_mono {low low' : Nat} {l : List Host.Cell} (h : cellsFrom low l = true)
    (hl : low' ≤ low) : cellsFrom low' l = true := by
  cases l with
  | nil => rfl
  | cons c rest =>
    obtain ⟨a, v⟩ := c
    simp only [cellsFrom, Bool.and_eq_true, decide_eq_true_eq] at h ⊢
    exact ⟨⟨⟨by omega, h.1.1.2⟩, h.1.2⟩, h.2⟩

/-- A write keeps the canonical form. -/
theorem writeCells_wf {low n : Nat} {v : Octet} {l : List Host.Cell} (h : cellsFrom low l = true)
    (hl : low ≤ n) (hn : n < memorySize) : cellsFrom low (writeCells l n v) = true := by
  induction l generalizing low with
  | nil =>
    simp only [writeCells]
    split
    · rfl
    · simp_all [cellsFrom]
  | cons c rest ih =>
    obtain ⟨a, w⟩ := c
    simp only [cellsFrom, Bool.and_eq_true, decide_eq_true_eq] at h
    obtain ⟨⟨⟨hla, ham⟩, hw⟩, hr⟩ := h
    simp only [writeCells]
    split
    · split
      · simp_all [cellsFrom]
      · simp only [cellsFrom, Bool.and_eq_true, decide_eq_true_eq]
        exact ⟨⟨⟨hl, hn⟩, ‹_›⟩, ⟨⟨by omega, ham⟩, hw⟩, hr⟩
    · split
      · split
        · exact cellsFrom_mono hr (by omega)
        · next hna _ =>
          subst hna
          simp only [cellsFrom, Bool.and_eq_true, decide_eq_true_eq]
          exact ⟨⟨⟨hl, hn⟩, ‹_›⟩, hr⟩
      · simp only [cellsFrom, Bool.and_eq_true, decide_eq_true_eq]
        exact ⟨⟨⟨hla, ham⟩, hw⟩, ih hr (by omega)⟩

/-- A read after a write gives the octet written at its address, and what was there at every other. -/
theorem readCells_writeCells {low n m : Nat} {v : Octet} {l : List Host.Cell}
    (h : cellsFrom low l = true) :
    readCells (writeCells l n v) m = if m = n then v else readCells l m := by
  induction l generalizing low with
  | nil =>
    simp only [writeCells]
    split
    · next hv => simp [readCells, hv]
    · simp only [readCells, eq_comm]
  | cons c rest ih =>
    obtain ⟨a, w⟩ := c
    simp only [cellsFrom, Bool.and_eq_true, decide_eq_true_eq] at h
    have hr := h.2
    simp only [writeCells]
    split
    · next hna =>
      have hb : ∀ k, k < a → readCells ((a, w) :: rest) k = unlistedOctet := fun k hk => by
        have hka : a ≠ k := by omega
        simp only [readCells, if_neg hka]
        exact readCells_below hr (by omega)
      split
      · next hv =>
        split
        · next hm => rw [hm, hb n hna, hv]
        · rfl
      · by_cases hm : m = n
        · subst hm; simp [readCells]
        · have hnm : n ≠ m := fun e => hm e.symm
          simp only [readCells, if_neg hm, if_neg hnm]
    · split
      · next hna =>
        subst hna
        split
        · next hv =>
          split
          · next hm => rw [hm, hv]; exact readCells_below hr (by omega)
          · next hm =>
            have hnm : n ≠ m := fun e => hm e.symm
            simp only [readCells, if_neg hnm]
        · by_cases hm : m = n
          · subst hm; simp [readCells]
          · have hnm : n ≠ m := fun e => hm e.symm
            simp only [readCells, if_neg hm, if_neg hnm]
      · next h1 h2 =>
        by_cases ham : a = m
        · subst ham
          have hne : ¬ a = n := fun e => h2 e.symm
          simp [readCells, hne]
        · simp only [readCells, if_neg ham]
          exact ih hr

theorem write_wf {m : Memory} (h : m.wf = true) (a : Nat) (v : Octet) : (m.write a v).wf = true := by
  unfold Memory.write
  split
  · exact writeCells_wf h (Nat.zero_le _) ‹_›
  · exact h

theorem read_write {m : Memory} (h : m.wf = true) {a : Nat} (ha : a < memorySize) (v : Octet) (b : Nat) :
    (m.write a v).read b = if b = a then v else m.read b := by
  unfold Memory.write Memory.read
  rw [if_pos ha]
  exact readCells_writeCells h

/-! ### Runs of octets -/

theorem writeOctets_wf {m : Memory} (h : m.wf = true) (a : Nat) (l : List Octet) :
    (m.writeOctets a l).wf = true := by
  induction l generalizing m a with
  | nil => exact h
  | cons v rest ih => exact ih (write_wf h a v) _

/-- A run of octets written inside packet memory is read back, and no other octet changes. -/
theorem read_writeOctets {m : Memory} (h : m.wf = true) {a : Nat} {l : List Octet}
    (ha : a + l.length ≤ memorySize) (b : Nat) :
    (m.writeOctets a l).read b = if a ≤ b ∧ b < a + l.length then l.getD (b - a) 0 else m.read b := by
  induction l generalizing m a with
  | nil =>
    simp [Memory.writeOctets]
  | cons v rest ih =>
    simp only [List.length_cons] at ha
    rw [Memory.writeOctets, ih (write_wf h a v) (by omega), read_write h (by omega)]
    simp only [List.length_cons]
    by_cases hb : b = a
    · subst hb
      have h1 : ¬ (b + 1 ≤ b ∧ b < b + 1 + rest.length) := by omega
      rw [if_neg h1]
      simp
    · rw [if_neg hb]
      by_cases hr : a + 1 ≤ b ∧ b < a + 1 + rest.length
      · have h2 : a ≤ b ∧ b < a + (rest.length + 1) := by omega
        have h3 : b - a = (b - (a + 1)) + 1 := by omega
        rw [if_pos hr, if_pos h2, h3, List.getD_cons_succ]
      · have h2 : ¬ (a ≤ b ∧ b < a + (rest.length + 1)) := by omega
        rw [if_neg hr, if_neg h2]

theorem readOctets_length (m : Memory) (a n : Nat) : (m.readOctets a n).length = n := by
  induction n generalizing a with
  | zero => rfl
  | succ n ih => simp [Memory.readOctets, ih]

theorem readOctets_getD (m : Memory) (a : Nat) {n k : Nat} (hk : k < n) :
    (m.readOctets a n).getD k 0 = m.read (a + k) := by
  induction n generalizing a k with
  | zero => omega
  | succ n ih =>
    cases k with
    | zero => simp [Memory.readOctets]
    | succ k =>
      rw [Memory.readOctets, List.getD_cons_succ, ih _ (by omega), Nat.add_right_comm]
      rfl

/-- A run reads the same in two memories that agree on it. -/
theorem readOctets_congr {m m' : Memory} {a n : Nat}
    (h : ∀ k, k < n → m'.read (a + k) = m.read (a + k)) : m'.readOctets a n = m.readOctets a n := by
  induction n generalizing a with
  | zero => rfl
  | succ n ih =>
    have h0 := h 0 (by omega)
    simp only [Nat.add_zero] at h0
    rw [Memory.readOctets, Memory.readOctets, h0]
    congr 1
    exact ih fun k hk => by
      have := h (k + 1) (by omega)
      rwa [show a + (k + 1) = a + 1 + k by omega] at this

end Sys2Proof.Machine
end

