-- ==== Sys2Proof/Laws/PerInstr.lean ====
section
/-!
SUPPORT. Statements made of every command, one lemma per constructor of `Instr`.
-/

namespace Sys2Proof.Laws.CarriedByItsCode

open Sys2Proof.Machine

/-- R171, Table 11-2: a host command is carried by its command code, which Table 11-2 defines, followed by its
parameter octets; a command of the trunk, of the clock or of SEL is carried by no octet. -/
def Statement (c : Instr) : Prop :=
  (∀ code, commandCode c = some code →
    code ∈ definedCodes ∧ carriedBy c = code :: parameterOctets c) ∧
  (commandCode c = none → (∀ code, c ≠ .unknownCommand code) → carriedBy c = [])

/-- A command with a defined code. -/
theorem of_code {c : Instr} {code : Octet} (h : commandCode c = some code) (hd : code ∈ definedCodes)
    (hc : carriedBy c = code :: parameterOctets c) : Statement c :=
  ⟨fun k hk => by obtain rfl : code = k := Option.some.inj (h.symm.trans hk); exact ⟨hd, hc⟩,
    fun hn => (nomatch (h.symm.trans hn))⟩

/-- A command carried by no octet. -/
theorem of_event {c : Instr} (h : commandCode c = none) (hc : carriedBy c = []) : Statement c :=
  ⟨fun _ hk => (nomatch (h.symm.trans hk)), fun _ _ => hc⟩

theorem hardReset (address : Station) (rate : Fin 4) (line : LineLevel) (sel rst : PinLevel) :
    Statement (.hardReset address rate line sel rst) :=
  of_event rfl rfl

theorem restart (address : Station) (rate : Fin 4) (line : LineLevel) :
    Statement (.restart address rate line) :=
  of_code rfl (by simp [definedCodes]) rfl

theorem activityStart :
    Statement .activityStart :=
  of_event rfl rfl

theorem transmitMismatch :
    Statement .transmitMismatch :=
  of_event rfl rfl

theorem transmissionComplete :
    Statement .transmissionComplete :=
  of_event rfl rfl

theorem validFrameEnd (characters : List Character) :
    Statement (.validFrameEnd characters) :=
  of_event rfl rfl

theorem invalidActivityEnd (characters : List Character) :
    Statement (.invalidActivityEnd characters) :=
  of_event rfl rfl

theorem lineFoundStuck (characters : List Character) :
    Statement (.lineFoundStuck characters) :=
  of_event rfl rfl

theorem returnToIdle :
    Statement .returnToIdle :=
  of_event rfl rfl

theorem slotBegin (overtaken : Bool) :
    Statement (.slotBegin overtaken) :=
  of_event rfl rfl

theorem replyStart :
    Statement .replyStart :=
  of_event rfl rfl

theorem replyWatchTimeout :
    Statement .replyWatchTimeout :=
  of_event rfl rfl

theorem joinQuiet :
    Statement .joinQuiet :=
  of_event rfl rfl

theorem quietTimerExpiry :
    Statement .quietTimerExpiry :=
  of_event rfl rfl

theorem silenceTimerExpiry (peer : Station) :
    Statement (.silenceTimerExpiry peer) :=
  of_event rfl rfl

theorem presenceTimerExpiry :
    Statement .presenceTimerExpiry :=
  of_event rfl rfl

theorem holdTimerExpiry (queue : QueueIx) :
    Statement (.holdTimerExpiry queue) :=
  of_event rfl rfl

theorem selFall :
    Statement .selFall :=
  of_event rfl rfl

theorem selRise :
    Statement .selRise :=
  of_event rfl rfl

theorem ident :
    Statement .ident :=
  of_code rfl (by simp [definedCodes]) rfl

theorem configure (params : List Octet) :
    Statement (.configure params) :=
  of_code rfl (by simp [definedCodes]) rfl

theorem leave :
    Statement .leave :=
  of_code rfl (by simp [definedCodes]) rfl

theorem join :
    Statement .join :=
  of_code rfl (by simp [definedCodes]) rfl

theorem memWrite (address count : Half) (data : List Octet) :
    Statement (.memWrite address count data) :=
  of_code rfl (by simp [definedCodes]) rfl

theorem memRead (address count : Half) :
    Statement (.memRead address count) :=
  of_code rfl (by simp [definedCodes]) rfl

theorem descWrite (index kindByte destByte channelByte : Octet) (address length : Half) (value : Value) (link : Octet) :
    Statement (.descWrite index kindByte destByte channelByte address length value link) :=
  of_code rfl (by simp [definedCodes]) rfl

theorem descRead (index : Octet) :
    Statement (.descRead index) :=
  of_code rfl (by simp [definedCodes]) rfl

theorem descDisarm (index : Octet) :
    Statement (.descDisarm index) :=
  of_code rfl (by simp [definedCodes]) rfl

theorem listWrite (list count : Octet) (stations : List Octet) :
    Statement (.listWrite list count stations) :=
  of_code rfl (by simp [definedCodes]) rfl

theorem queueStart (queue index : Octet) :
    Statement (.queueStart queue index) :=
  of_code rfl (by simp [definedCodes]) rfl

theorem queueResume (queue : Octet) :
    Statement (.queueResume queue) :=
  of_code rfl (by simp [definedCodes]) rfl

theorem queueStop (queue : Octet) :
    Statement (.queueStop queue) :=
  of_code rfl (by simp [definedCodes]) rfl

theorem queueRead (queue : Octet) :
    Statement (.queueRead queue) :=
  of_code rfl (by simp [definedCodes]) rfl

theorem inboxPost (inbox : Octet) (address capacity : Half) :
    Statement (.inboxPost inbox address capacity) :=
  of_code rfl (by simp [definedCodes]) rfl

theorem inboxTake (inbox : Octet) :
    Statement (.inboxTake inbox) :=
  of_code rfl (by simp [definedCodes]) rfl

theorem inboxRead (inbox : Octet) :
    Statement (.inboxRead inbox) :=
  of_code rfl (by simp [definedCodes]) rfl

theorem noticeTake (word : Octet) :
    Statement (.noticeTake word) :=
  of_code rfl (by simp [definedCodes]) rfl

theorem logTake :
    Statement .logTake :=
  of_code rfl (by simp [definedCodes]) rfl

theorem peerRead (station : Octet) :
    Statement (.peerRead station) :=
  of_code rfl (by simp [definedCodes]) rfl

theorem eventsRead :
    Statement .eventsRead :=
  of_code rfl (by simp [definedCodes]) rfl

theorem eventsClear (selection : BitVec 24) :
    Statement (.eventsClear selection) :=
  of_code rfl (by simp [definedCodes]) rfl

theorem maskWrite (enables : BitVec 24) :
    Statement (.maskWrite enables) :=
  of_code rfl (by simp [definedCodes]) rfl

theorem countersTake :
    Statement .countersTake :=
  of_code rfl (by simp [definedCodes]) rfl

theorem unknownCommand (code : Octet) :
    Statement (.unknownCommand code) :=
  ⟨fun _ hk => (nomatch hk), fun _ h => absurd rfl (h code)⟩

end Sys2Proof.Laws.CarriedByItsCode
end

