-- ==== Sys2Proof/Tests/Slice0.lean ====
section
/-!
SUPPORT. Tests on fixed values: what the checks of WellFormed refuse, the worked examples of the spec, one or
two small tests for each command, and for every statement with hypotheses a state and operands that meet them.
-/

-- The theorems of this file are elaborated one after another: each asks for little, and together, in threads
-- of their own, they ask for more memory than the check allows.
set_option Elab.async false

namespace Sys2Proof.Tests

open Sys2Proof Sys2Proof.Machine

/-! ### States and frames of the tests -/

/-- The state after a command. -/
def after (c : Instr) (s : State) : State :=
  match exec c s with
  | .next t => t
  | _ => s

/-- The settings of the test station: epoch 3, presence 32 ms, retry limit 1, hold limit 40 ms, patience 3;
queue 0 URGENT; every inbox enabled, open to stations 9 and 10, and accepting broadcast; word 0 open, word 1
restricted to 9, words 2 and 3 closed. -/
def settings : Settings :=
  { epoch := 3, presence := 2, retryLimit := 1, holdLimit := 40, patience := 3,
    queues := #v[{ urgent := true, logAll := false }, { urgent := false, logAll := false },
      { urgent := false, logAll := true }, { urgent := false, logAll := false }],
    inboxes := Vector.replicate 8 { enabled := true, broadcast := true, sources := 0x600 },
    access := #v[.opened, .restricted 9, .closed, .closed] }

/-- The reset state with the port open for a command. -/
def opened : State :=
  { State.reset with port := { state := .command, held := [], response := [], sel := .low } }

/-- A configured ACTIVE station 5 on an idle line, its port open for a command. -/
def online : State :=
  { opened with
    straps := { address := 5, rate := 1 },
    claim := { ClaimUnit.initial with state := .active },
    peers := PeerTable.initial 5,
    settings := some settings }

/-- Station 9 has been heard with epoch 4. -/
def known : State :=
  online.setPeer 9 { PeerEntry.initial .present with epoch := some 4, silence := some 0 }

/-- Inbox 2 holds a buffer of 3 octets at the top of packet memory, and one more. -/
def stocked : State :=
  known.setInbox 2 { Inbox.initial with
    free := [{ address := 32765, capacity := 3 }, { address := 0, capacity := 1 }] }

/-- A MESSAGE of 3 octets to inbox 2 of station 9. -/
def letter : HostFields :=
  { HostFields.initial with destination := .station 9, inbox := 2, address := 1000, length := 3,
                            link := none }

/-- Descriptor 7 holds the message, armed. -/
def armed : State :=
  known.setDesc 7 { Descriptor.initial with host := letter, armed := true }

/-- The context of the message in flight, its pair lock taken. -/
def inFlight : Context :=
  { head := 7, copy := letter, destinations := .one 9, current := 1, outcomes := [.notTried],
    stepAttempts := 0, fullCount := 0, hold := none, attempts := 0, late := 0, outcome := none,
    lock := .taken, unconfirmed := false, seqSent := none }

/-- Queue 0 has taken the message and holds the lock of pair (9, 2). -/
def sending : State :=
  ((known.setDesc 7 { Descriptor.initial with host := letter, armed := true, holder := some 0 }).setQueue 0
    (.running inFlight)).setSendPair 9 2 { SendPair.initial with lock := some 0 }

/-- Its DATA, with SEQ 0, has gone out twice, and the reply watch is open. -/
def watching : State :=
  (sending.setQueue 0 (.running { inFlight with stepAttempts := 2, attempts := 2, seqSent := some 0 })).setTrunk
    { sending.trunk with watch := some { queue := 0, frame := .data, station := 9 } }

/-- Pair (9, 2) is at blind count 3, its anchor 15, and a STEP has gone out. -/
def querying : State :=
  (watching.setSendPair 9 2 { anchor := 15, blind := 3, lock := some 0 }).setTrunk
    { sending.trunk with watch := some { queue := 0, frame := .step, station := 9 } }

/-- A claimed PRESENCE of station 5 is on the line, complete. -/
def claiming : State :=
  online.setTrunk { online.trunk with
    line := .activeTx,
    transmission := some { item := .presence, lead := [], address := 0, length := 0, sent := [], bit := 0,
                           phase := .complete } }

/-- The DATA of queue 0 is on the line, complete. -/
def dataOut : State :=
  sending.setTrunk { sending.trunk with
    line := .activeTx,
    transmission := some { item := .queue 0 .data, lead := [], address := 0, length := 0, sent := [],
                           bit := 0, phase := .complete } }

/-- The context of the second step of a fan-out MESSAGE, toward the last station of its list. -/
def fanning : Context :=
  { inFlight with destinations := .list [10, 9], current := 2, outcomes := [.delivered, .notTried] }

/-- Descriptor 7 holds a MESSAGE to list 3, which names station 10, SILENT, and then station 9. -/
def armedList : State :=
  ((known.setPeer 10 (PeerEntry.initial .silent)).setFanout 3 [10, 9]).setDesc 7
    { Descriptor.initial with host := { letter with destination := .list 3 }, armed := true }

/-- Station 9 heard with another epoch, pair (9, 2) at blind count 3 and locked by queue 0, which queries it. -/
def stale : State := querying.setPeer 9 { querying.peer 9 with epoch := some 2 }

/-- RST is held low. -/
def heldInReset : State := online.setRst .low

/-- The line form of a frame (R1). -/
def onLine (f : Frame) : List Character := (encodeFrame f).map lineCharacter

/-- A frame of station 9, epoch 4, with CH 2. -/
def from9 (dst : Option Station) (body : FrameBody) : Frame :=
  { epoch := 4, src := 9, ch := 2, dst := dst, body := body }

/-- A PRESENCE of station 5 itself. -/
def ownPresence : Frame := { epoch := 3, src := 5, ch := 0, dst := none, body := .presence false }

/-- The 50 parameter octets of a CONFIGURE with presence code, retry limit, hold limit, patience and word
access as given, every inbox open to all. -/
def params (presence retry hold patience access : Octet) : List Octet :=
  [3, presence, retry, hold, patience, 1] ++ (List.replicate 8 [3, 0xFF, 0xFF, 0xFF, 0xFF]).flatten ++
    List.replicate 4 access

/-- A queue that waits for room in a full log. -/
def blocked : State :=
  (sending.setQueue 0 (.blockedLog { inFlight with lock := .none, outcome := some .noReply })).setLog
    [{ queue := 1, descriptor := 2, outcome := .stopped, attempts := 3, late := 1,
       perDest := some [(9, .delivered), (10, .stopped)] }]

/-! ### What WellFormed refuses -/

theorem test_wellFormed_refuses_bad_frame : (Instr.validFrameEnd []).wellFormed = false := by decide

theorem test_wellFormed_refuses_short_configure :
    (Instr.configure [1, 2, 3]).wellFormed = false := by decide

theorem test_wellFormed_refuses_memWrite_count : (Instr.memWrite 0 2 [1]).wellFormed = false ∧
    (Instr.memWrite 0 0 [1]).wellFormed = false := by decide

theorem test_wellFormed_refuses_listWrite_count : (Instr.listWrite 0 2 [1]).wellFormed = false ∧
    (Instr.listWrite 0 9 [1]).wellFormed = false := by decide

theorem test_wellFormed_refuses_defined_code : (Instr.unknownCommand 0x68).wellFormed = false := by decide

theorem test_wellFormed_admits_frame :
    (Instr.validFrameEnd (onLine (from9 none (.presence false)))).wellFormed = true := by decide +kernel

/-! ### Frames -/

/-- Section 1.9: the header of the DATA frame of the worked example, and its length of 12 octets. -/
theorem test_frame_worked_example :
    let f : Frame := { epoch := 9, src := 5, ch := 2, dst := some 12, body := .data 7 [1, 2, 3] }
    (encodeFrame f).take 7 = [0xC3, 0x19, 0x45, 0x0C, 7, 3, 0] ∧ (encodeFrame f).length = 12 := by
  decide +kernel

/-- Section 1.9: the REPLY of the worked example, 9 octets. -/
theorem test_reply_worked_example :
    let f : Frame := { epoch := 4, src := 12, ch := 2, dst := some 5, body := .reply 1 7 false 5 }
    (encodeFrame f).take 7 = [0xC3, 0x84, 0x4C, 5, 1, 7, 5] ∧ (encodeFrame f).length = 9 := by
  decide +kernel

/-! ### One or two tests for each command -/

/-- R38: the entry at the strap address is SELF. -/
theorem test_hardReset_self_entry :
    ((after (.hardReset 5 1 .mark .high .high) State.reset).peer 5).state = .self ∧
    ((after (.hardReset 5 1 .mark .high .high) State.reset).peer 4).state = .unknown := by decide +kernel

/-- R4: a line at SPACE when the reset ends is an activity not seen from its beginning. -/
theorem test_hardReset_on_space :
    (after (.hardReset 5 1 .space .high .high) State.reset).trunk.line = .activeRx := by decide +kernel

/-- R155, R170: while RST is held low ATTN is released, though an enabled flag is set, and SEL opens no
transaction; a flag is set again only after the reset's end. -/
theorem test_hardReset_rst_low :
    let s := (blocked.setAttention { blocked.attention with mask := 0x1000 })
    s.attn = true ∧ (s.setRst .low).attn = false ∧
    (after .selFall (after (.hardReset 5 1 .mark .high .low) s)).port.state = .idle ∧
    (after .selFall (after (.hardReset 5 1 .mark .high .high) s)).port.state = .command := by decide +kernel

/-- R178: the message stays, disarmed. -/
theorem test_restart_disarms : ((after (.restart 6 2 .mark) armed).desc 7).armed = false ∧
    ((after (.restart 6 2 .mark) armed).desc 7).host = letter ∧
    (after (.restart 6 2 .mark) armed).port.response = [0] := by decide +kernel

/-- R2, R30. -/
theorem test_activityStart : (after .activityStart online).trunk.line = .activeRx := by decide +kernel

/-- R16. -/
theorem test_transmitMismatch :
    (after .transmitMismatch (after (.slotBegin false) sending)).trunk.line = .activeRx := by decide +kernel

/-- R15, R82: the frame on the line is a DATA of 12 octets with SEQ 0. -/
theorem test_transmissionComplete :
    (after .transmissionComplete (after (.slotBegin false) sending)).trunk.transmission.map
      (fun t => (t.sent.take 7, t.sent.length)) =
    some ([0xC3, 0x13, 0x45, 9, 0, 3, 0], 12) := by decide +kernel

/-- R31: the first valid claimed frame makes a LISTENING station ACTIVE. -/
theorem test_validFrameEnd_joins :
    let s := online.setTrunkState .listening
    (after (.validFrameEnd (onLine (from9 none (.presence false)))) s).claim.state = .active := by
  decide +kernel

/-- R20. -/
theorem test_validFrameEnd_sets_reference :
    (after (.validFrameEnd (onLine (from9 none (.presence false)))) online).claim.lastWinner = 9 := by
  decide +kernel

/-- R20, R167. -/
theorem test_invalidActivityEnd :
    (after (.invalidActivityEnd []) (online.setLastWinner 4)).claim.lastWinner = 31 ∧
    (after (.invalidActivityEnd []) online).counters.invalid = 1 := by decide +kernel

/-- R2: an invalid activity of one octet, kept until the next activity begins. -/
theorem test_invalidActivityEnd_keeps_octets :
    let s := after (.invalidActivityEnd [lineCharacter 0x55]) online
    s.trunk.received = [0x55] ∧ s.trunk.receivedCount = 1 ∧
    (after .activityStart s).trunk.receivedCount = 0 := by decide +kernel

/-- R163, R165. -/
theorem test_lineFoundStuck : (after (.lineFoundStuck []) online).claim.state = .listening ∧
    (after (.lineFoundStuck []) online).attention.lineStuck = true := by decide +kernel

/-- R166. -/
theorem test_returnToIdle :
    (after .returnToIdle (after (.lineFoundStuck []) online)).claim.joinCount = some 0 := by decide +kernel

/-- R24: the FRESH_START presence comes first. -/
theorem test_slotBegin_fresh_start :
    let s := sending.setClaim { sending.claim with freshStartPending := true }
    (after (.slotBegin false) s).trunk.transmission.map (·.item) = some .freshStart := by decide +kernel

/-- R25: the pointer of the class moves to the granted queue. -/
theorem test_slotBegin_moves_pointer : (after (.slotBegin false) sending).claim.lastUrgent = 0 ∧
    (after (.slotBegin false) sending).claim.lastRoutine = 3 := by decide +kernel

/-- R25, R84: another station's activity begins first; the queue's pointer has moved, its frame is not sent. -/
theorem test_slotBegin_overtaken : (after (.slotBegin true) sending).claim.lastUrgent = 0 ∧
    (after (.slotBegin true) sending).trunk.line = .activeRx ∧
    (after (.slotBegin true) sending).queue 0 = .running inFlight := by decide +kernel

/-- R28, R114, R115: the REPLY to an accepted DATA is on the line. -/
theorem test_replyStart :
    let s := after (.validFrameEnd (onLine (from9 (some 5) (.data 0 [1, 2, 3])))) stocked
    (after .replyStart s).trunk.transmission.map (·.lead) =
      some [0xC3, 0x83, 0x45, 9, 1, 0, 1] := by decide +kernel

/-- R91: the first attempt of a message with retry limit 1 is retried, the second is the last. -/
theorem test_replyWatchTimeout :
    (after .replyWatchTimeout watching).queue 0 = .waitingAfter 7 ∧
    ((after .replyWatchTimeout watching).desc 7).outcome = some .noReply ∧
    ((after .replyWatchTimeout watching).sendPair 9 2).blind = 1 := by decide +kernel

/-- R32. -/
theorem test_joinQuiet :
    let s := online.setClaim { online.claim with state := .listening, joinCount := some 288 }
    (after .joinQuiet s).claim.state = .active := by decide +kernel

/-- R35. -/
theorem test_quietTimerExpiry :
    let s := online.setClaim { online.claim with state := .quiet, quietTimer := some 0 }
    (after .quietTimerExpiry s).claim.state = .listening := by decide +kernel

/-- R40. -/
theorem test_silenceTimerExpiry : ((after (.silenceTimerExpiry 9) known).peer 9).state = .silent ∧
    ((after (.silenceTimerExpiry 9) known).peer 9).epoch = some 4 := by decide +kernel

/-- R43. -/
theorem test_presenceTimerExpiry :
    let s := online.setPeers { online.peers with presenceTimer := some 32000 }
    (after .presenceTimerExpiry s).peers.presenceDue = true := by decide +kernel

/-- R125. -/
theorem test_holdTimerExpiry :
    let s := (sending.setQueue 0 (.held { inFlight with hold := some 0 })).setHint 9 2 (some 0)
    (after (.holdTimerExpiry 0) s).queue 0 = .running inFlight ∧
    (after (.holdTimerExpiry 0) s).hint 9 2 = none := by decide +kernel

/-- R170. -/
theorem test_selFall : (after .selFall State.reset).port.state = .command := by decide +kernel

/-- R169: the status octet 0x08 on SDO, most significant bit first, and SDO released while SEL is high. -/
theorem test_sdo :
    let p := (after (.unknownCommand 0xFF) opened).port
    (List.range 8).map p.sdo =
      [some false, some false, some false, some false, some true, some false, some false, some false] ∧
    ({ p with sel := .high }).sdo 4 = none := by decide +kernel

/-- R170. -/
theorem test_selRise : (after .selRise online).port.state = .idle := by decide +kernel

/-- Section 11.8, step 10: part code, revision, address, rate and trunk state. -/
theorem test_ident :
    (after .ident online).port.response = [0, 0x16, 0x24, 1, 5, 1, 2] := by decide +kernel

/-- Section 11.8, steps 4 and 5: presence code 7 is refused; a CONFIGURE in range leaves the own address out
of the source sets. -/
theorem test_configure :
    (after (.configure (params 7 1 40 3 1)) opened).port.response = [3] ∧
    (after (.configure (params 2 1 40 3 1)) opened).port.response = [0] ∧
    (after (.configure (params 2 1 40 3 1)) opened).claim.state = .listening ∧
    ((after (.configure (params 2 1 40 3 1)) opened).inboxSetting 2).sources = 0xFFFFFFFE := by
  decide +kernel

/-- R170, R171: the code and 49 parameters are held; the octet 0x01 that comes then is the last parameter. -/
theorem test_configure_completed_by_another_octet :
    let held := 0x02 :: (params 2 1 40 3 1).take 49
    let s := after .ident (opened.setPort { opened.port with held := held })
    (after .selRise (opened.setPort { opened.port with held := held })).port.held = [] ∧
    s.port.response = [0] ∧ s.claim.state = .listening ∧ s.access 3 = .opened := by decide +kernel

/-- R170: octets clocked in RESPONSE shift out the response. -/
theorem test_ident_read_out :
    (after (.memRead 0 1) (after .ident online)).port.response = [1, 2] ∧
    (after .ident (after .logTake online)).port.response = [] := by decide +kernel

/-- Section 11.8, step 6. -/
theorem test_configure_twice :
    (after (.configure (params 7 1 40 3 1)) online).port.response = [7] := by decide +kernel

/-- R33. -/
theorem test_leave : (after .leave online).claim.state = .offline ∧
    (after .leave claiming).claim.state = .active := by decide +kernel

/-- R34. -/
theorem test_join : (after .join online).port.response = [2] ∧
    (after .join (online.setTrunkState .offline)).claim.state = .listening := by decide +kernel

/-- R179: a write that ends at the top of packet memory, and one that goes past it. -/
theorem test_memWrite : (after (.memWrite 0x7FFF 1 [7]) online).memory.read 0x7FFF = 7 ∧
    (after (.memWrite 0x7FFF 2 [7, 8]) online).port.response = [3] := by decide +kernel

/-- R179. -/
theorem test_memRead :
    (after (.memRead 99 3) (online.setMemory (online.memory.writeOctets 100 [7, 8]))).port.response =
      [0, 0, 7, 8] := by decide +kernel

/-- Table 11-3: a NOTICE to station 9, word 1, armed, its link END. -/
theorem test_descWrite :
    let c : Instr := .descWrite 7 0x22 9 0x10 0 0 0x01020304 0xFF
    ((after c online).desc 7).host.kind = .notice ∧ ((after c online).desc 7).host.word = 1 ∧
    ((after c online).desc 7).host.link = none ∧ (after c armed).port.response = [4] := by decide +kernel

/-- Table 11-4: the octets that DESC_WRITE would carry, and no holder. -/
theorem test_descRead : (after (.descRead 7) armed).port.response.take 16 =
    [0, 7, 0x20, 9, 2, 0xE8, 3, 3, 0, 0, 0, 0, 0, 0xFF, 0xFF, 0] := by decide +kernel

/-- R60. -/
theorem test_descDisarm : ((after (.descDisarm 7) armed).desc 7).armed = false ∧
    (after (.descDisarm 7) sending).port.response = [4] := by decide +kernel

/-- R61: the own address is refused. -/
theorem test_listWrite : (after (.listWrite 15 2 [9, 31]) online).fanout 15 = [9, 31] ∧
    (after (.listWrite 15 2 [9, 5]) online).port.response = [3] := by decide +kernel

/-- R63, R65, R79. -/
theorem test_queueStart : (after (.queueStart 0 7) armed).queue 0 = .running inFlight ∧
    ((after (.queueStart 0 7) armed).desc 7).holder = some 0 := by decide +kernel

/-- R66. -/
theorem test_queueResume :
    (after (.queueResume 0) (armed.setQueue 0 (.waitingAt 7))).queue 0 = .running inFlight ∧
    (after (.queueResume 0) armed).port.response = [2] := by decide +kernel

/-- R74, R75: with a frame on the trunk the queue is STOPPING, otherwise STOPPED. -/
theorem test_queueStop : (after (.queueStop 0) sending).queue 0 = .stopped ∧
    ((after (.queueStop 0) sending).desc 7).outcome = some .stopped ∧
    ((after (.queueStop 0) watching).queue 0).codes.1 = 5 := by decide +kernel

/-- Table 11-4: RUNNING, head 7, URGENT, destination 1 of 1 at station 9. -/
theorem test_queueRead : (after (.queueRead 0) sending).port.response.take 13 =
    [0, 2, 3, 7, 1, 1, 9, 0, 0, 0, 0, 1, 8] := by decide +kernel

/-- R105, R108: the post of a third buffer. -/
theorem test_inboxPost : ((after (.inboxPost 2 0x7E00 0x200) stocked).inbox 2).free.length = 3 ∧
    (after (.inboxPost 2 0x7E01 0x200) stocked).port.response = [3] := by decide +kernel

/-- R107, Table 11-4: the DATA that was accepted. -/
theorem test_inboxTake :
    let s := after (.validFrameEnd (onLine (from9 (some 5) (.data 0 [1, 2, 3])))) stocked
    (after (.inboxTake 2) s).port.response = [0, 9, 1, 3, 0, 0xFD, 0x7F, 3, 0, 0] := by decide +kernel

/-- R119, Table 11-4. -/
theorem test_inboxRead : (after (.inboxRead 2) stocked).port.response =
    [0, 3, 0, 6, 0, 0, 2, 0xFD, 0x7F, 3, 0, 0, 2, 0, 0, 0, 0, 0, 0] := by decide +kernel

/-- R138, R141: a word written by station 9 and taken. -/
theorem test_noticeTake :
    let s := after (.validFrameEnd (onLine (from9 (some 5) (.notice 1 0x01020304)))) known
    (after (.noticeTake 1) s).port.response = [0, 4, 3, 2, 1, 9, 1] ∧
    ((after (.noticeTake 1) s).word 1).unread = false := by decide +kernel

/-- R148, R149: the record taken leaves none, and the waiting queue's record takes its place. -/
theorem test_logTake : (after .logTake blocked).port.response.take 12 =
      [0, 0, 1, 2, 7, 3, 1, 2, 9, 1, 10, 7] ∧
    (after .logTake blocked).log.length = 1 ∧ (after .logTake blocked).queue 0 = .waitingAfter 7 := by
  decide +kernel

/-- R54, Table 11-4: PRESENT, epoch 4; pair (9, 2) with anchor 15 locked by queue 0. -/
theorem test_peerRead : (after (.peerRead 9) sending).port.response.take 9 =
    [0, 1, 4, 15, 0xFF, 15, 0xFF, 15, 0] := by decide +kernel

/-- R153, R155: LOG is flag 12. -/
theorem test_eventsRead :
    let s := blocked.setAttention { blocked.attention with mask := 0x1000 }
    (after .eventsRead s).port.response = [0, 0, 0x10, 0, 0, 0x10, 0, 1] := by decide +kernel

/-- R153: PEER_CHANGE is flag 13; the LOG condition is not cleared. -/
theorem test_eventsClear :
    (after (.eventsClear 0xFFFFFF) blocked.latchPeerChange).attention.peerChange = false ∧
    (after (.eventsClear 0xFFFFFF) blocked).logFlag = true := by decide +kernel

/-- R154: bits 23 to 21 are not examined. -/
theorem test_maskWrite :
    (after (.maskWrite 0xFFFFFF) online).attention.mask = 0x1FFFFF := by decide +kernel

/-- R168. -/
theorem test_countersTake :
    let s := online.setCounters { invalid := 1, collisions := 258, noReply := 0, drops := 65535 }
    (after .countersTake s).port.response = [0, 1, 0, 2, 1, 0, 0, 0xFF, 0xFF] ∧
    (after .countersTake s).counters.drops = 0 := by decide +kernel

/-- R171. -/
theorem test_unknownCommand : (after (.unknownCommand 0xFF) opened).port.response = [8] := by
  decide +kernel

/-! ### A state and operands for every statement with hypotheses -/

theorem online_listens : online.listens ∧ online.settings.isSome = true ∧ opened.listens ∧
    opened.settings = none := by
  unfold State.listens; decide +kernel

theorem witness_StepTakesTheFrontCommand :
    (State.reset.setPending [.ident]).pending = .ident :: [] := rfl

theorem witness_one_bit_time : State.reset.pending = [] ∧ State.reset.claim.joinCount = none ∧
    online.pending = [] ∧ online.settings = some settings := by decide +kernel

/-- A port in each transaction state. The octets of a QUEUE_START after a QUEUE_READ's code: the first is its
parameter, and two come after it; the last parameter of a CONFIGURE; a code whose parameter is still to come. -/
theorem witness_TransactionsOpenEndAndTakeOctets :
    State.reset.port.sel = .high ∧ State.reset.port.state = .idle ∧ State.reset.rst = .high ∧
    (commandCode .ident).isSome = true ∧ (after .ident online).port.state = .response ∧
    opened.port.state = .command ∧ (Instr.queueRead 0x30).wellFormed = true ∧
    [0x33] ++ carriedBy (.queueStart 0 7) = carriedBy (.queueRead 0x30) ++ [0, 7] ∧
    [(0x33 : Octet)].length < (carriedBy (.queueRead 0x30)).length ∧
    (0x02 :: List.replicate 49 1) ++ carriedBy .ident = carriedBy (.configure (List.replicate 50 1)) ++ [] ∧
    (∀ n, 1 ≤ n → n ≤ (carriedBy .ident).length →
      commandComplete ([0x30, 1] ++ (carriedBy .ident).take n) = true) ∧
    ∀ n, 1 ≤ n → n ≤ (carriedBy .ident).length →
      commandComplete ([0x30] ++ (carriedBy .ident).take n) = false := by
  refine ⟨rfl, rfl, rfl, rfl, by decide +kernel, rfl, rfl, by decide, by decide, by decide, ?_, ?_⟩ <;>
  · intro n h1 h2
    obtain rfl : n = 1 := Nat.le_antisymm h2 h1
    decide

theorem witness_CommandsAreRefusedByCodeAndState :
    Instr.afterConfigure .leave ∧ Instr.leave.wellFormed = true ∧ opened.listens ∧
    opened.settings = none ∧ ∀ c, commandCode c ≠ some 0xFF :=
  ⟨⟨4, rfl, by decide, by decide, by decide⟩, rfl, online_listens.2.2.1, rfl,
    fun c => by cases c <;> simp [commandCode]⟩

/-- The highest values that CONFIGURE takes, and the least hold limit. -/
theorem witness_ConfigureTakesItsParameters :
    (params 5 7 1 15 0x7E).length = 50 ∧ opened.settings = none ∧
    ConfigureInRange fun n => (params 5 7 1 15 0x7E).getD (n - 1) 0 := by
  unfold ConfigureInRange; decide +kernel

/-- One beyond each of them. -/
theorem witness_ConfigureOutOfRangeOrTwiceIsRefused :
    let out (l : List Octet) : Prop :=
      l.length = 50 ∧ ¬ ConfigureInRange fun n => l.getD (n - 1) 0
    out (params 6 7 1 15 0x7E) ∧ out (params 5 8 1 15 0x7E) ∧ out (params 5 7 0 15 0x7E) ∧
    out (params 5 7 1 16 0x7E) ∧ out (params 5 7 1 15 0x82) ∧ out (params 5 7 1 15 3) ∧
    online.settings.isSome = true := by
  unfold ConfigureInRange; decide +kernel

theorem witness_HardResetRestoresEveryBlock :
    (State.reset.setRst .low).rst = .low ∧ (State.reset.setRst .low).port.sel = .high := ⟨rfl, rfl⟩

/-- No reset; no MEM_WRITE; a frame end at which an inbox accepts a payload. -/
theorem witness_SettingsAndMemoryChangeOnlyByTheirCommands :
    exec .ident State.reset = .next State.reset ∧ State.reset.acting .ident = .ident ∧
    online.settings.isSome = true ∧
    (after (.validFrameEnd (onLine (from9 (some 5) (.data 0 [1, 2, 3])))) stocked).memory ≠ stocked.memory :=
  ⟨rfl, rfl, rfl, by decide +kernel⟩

theorem witness_LeaveAndJoinMoveTheStation :
    online.claim.state ≠ .unconfigured ∧ online.claim.state ≠ .offline ∧ online.trunk.line ≠ .activeTx ∧
    claiming.claim.state ≠ .offline ∧ claiming.trunk.line = .activeTx ∧
    (after .leave claiming).claim.leaveDeferred = true ∧ (after .leave claiming).trunk.line = .activeTx ∧
    (online.setTrunkState .offline).claim.state = .offline := by decide +kernel

/-- The last octet of packet memory, the longest transfer, and one past each. -/
theorem witness_memory_transfers :
    MemoryForm online ∧ (Instr.memWrite 0x7FFF 1 [7]).wellFormed = true ∧
    (0x7FFF : Half).toNat + (1 : Half).toNat ≤ 32768 ∧
    (Instr.memWrite 0x7E00 0x200 (List.replicate 512 7)).wellFormed = true ∧
    (0x7E00 : Half).toNat + (0x200 : Half).toNat ≤ 32768 ∧
    (Instr.memWrite 0x7FFF 2 [7, 8]).wellFormed = true ∧
    ¬ (0x7FFF : Half).toNat + (2 : Half).toNat ≤ 32768 ∧
    (Instr.memWrite 0 0 []).wellFormed = true ∧ ¬ 1 ≤ (0 : Half).toNat := by
  unfold MemoryForm; decide +kernel

/-- A frame with a glitch on the line before it. -/
theorem witness_SentFramesAreReadBackWhole :
    let f := from9 (some 5) (.data 15 [1])
    f.legal = true ∧
    (0x3FF :: onLine f).filter (fun c => !c.getLsbD 0) = (encodeFrame f).map lineCharacter := by
  decide +kernel

theorem witness_ValidFramesMeetEveryCondition :
    judge (onLine (from9 (some 5) (.data 15 [1]))) = some (from9 (some 5) (.data 15 [1])) := by
  decide +kernel

/-- An ACTIVE station at its slot: nothing pending, a FRESH_START presence, an announcement, a ready URGENT
queue, a ready ROUTINE queue, a due PRESENCE. -/
theorem witness_SlotGrantsTheFirstPendingItem :
    online.claim.state = .active ∧ online.trunk.line = .idle ∧ online.claim.freshStartPending = false ∧
    online.peers.presenceDue = false ∧
    (online.setClaim { online.claim with freshStartPending := true }).claim.freshStartPending = true ∧
    ((online.setInbox 7 { Inbox.initial with announce := true }).inbox 7).announce = true ∧
    (∀ j < 7, ((online.setInbox 7 { Inbox.initial with announce := true }).inbox j).announce = false) ∧
    sending.queueReady 0 = true ∧ (sending.queueSetting 0).urgent = true ∧
    (sending.setQueue 1 (.running { inFlight with lock := .none, copy := { letter with kind := .notice } })
      ).queueReady 1 = true ∧ (sending.queueSetting 1).urgent = false ∧
    (online.setPeers { online.peers with presenceDue := true }).peers.presenceDue = true := by
  decide +kernel

theorem witness_GrantedDataCarriesTheNextSequence :
    sending.arbitrate = some (.queue 0) ∧ sending.queue 0 = .running inFlight ∧
    inFlight.pair = some (9, 2) ∧ (sending.sendPair 9 2).blind ≤ 2 ∧ inFlight.copy.length.val ≤ 512 ∧
    1 ≤ inFlight.copy.length.val ∧ sending.claim.state = .active ∧ sending.trunk.line = .idle := by
  decide +kernel

/-- Nothing sent, and some octets sent; each kind of item granted; a composed REPLY. -/
theorem witness_TransmissionsBeginAndCarryTheirOctets :
    (after (.slotBegin false) sending).trunk.line = .activeTx ∧
    ((after (.slotBegin false) sending).trunk.transmission.map fun t =>
      (t.phase, t.sent, t.bit, t.lead.length + t.length)) = some (.driving, [], 0, 10) ∧
    (after (.slotBegin false) sending).pending = [] ∧
    (online.setClaim { online.claim with freshStartPending := true }).arbitrate = some .freshStart ∧
    (online.setInbox 7 { Inbox.initial with announce := true }).arbitrate = some (.credit 7) ∧
    (online.setPeers { online.peers with presenceDue := true }).arbitrate = some .presence ∧
    (sending.setSendPair 9 2 { anchor := 15, blind := 3, lock := some 0 }).arbitrate = some (.queue 0) ∧
    (known.setQueue 1 (.running { inFlight with lock := .none, copy := { letter with kind := .notice } })
      ).arbitrate = some (.queue 1) ∧
    (known.setQueue 1 (.running { inFlight with
      lock := .none, copy := { letter with kind := .broadcast }, destinations := .all })
      ).arbitrate = some (.queue 1) ∧
    (online.compose ownPresence).trunk.reply = some ownPresence ∧
    (online.compose ownPresence).claim.state = .active ∧
    (online.compose ownPresence).trunk.line = .idle := by decide +kernel

/-- SYNC, 0xC3, part of the way out. -/
def syncOnLine (bits : Nat) : State :=
  online.setTrunk { online.trunk with
    line := .activeTx,
    transmission := some { item := .presence, lead := [0xC3, 0, 0, 0], address := 0, length := 0,
                           sent := if bits = 0 then [] else [0xC3], bit := bits, phase := .driving } }

/-- R1: 0xC3 goes out as 0 1100 0011 1, least significant bit first. -/
theorem test_drive_of_sync :
    (List.range 10).map (fun n => decide ((syncOnLine n).drive = .released)) =
      [false, true, true, false, false, false, false, true, true, true] := by decide +kernel

/-- R15, R16: nothing is driven after the last stop bit, after a mismatch, and on an IDLE line. -/
theorem test_drive_released : dataOut.drive = .released ∧ online.drive = .released ∧
    (after (.slotBegin false) sending).drive = .space ∧
    (after .transmitMismatch (after (.slotBegin false) sending)).drive = .released := by decide +kernel

/-- An octet part of the way out. -/
theorem witness_octet_on_the_line :
    (syncOnLine 3).trunk.transmission.map (fun t => (t.phase, t.sent.getLast?, t.bit)) =
      some (.driving, some 0xC3, 3) ∧ (syncOnLine 3).trunk.line = .activeTx ∧ (syncOnLine 3).pending = [] := by
  decide +kernel

theorem witness_ActivityBeginsAndMismatchStopsTheDrive :
    online.trunk.line = .idle ∧
    ((after (.slotBegin false) sending).trunk.transmission.map (·.phase)) = some .driving ∧
    (after (.slotBegin false) sending).claim.leaveDeferred = false ∧
    (after .leave (after (.slotBegin false) sending)).claim.leaveDeferred = true := by decide +kernel

theorem witness_InvalidActivitySetsTheReferenceTo31 :
    online.uninvolved ∧ online.trunk.line ≠ .stuck ∧ online.settings.isSome = true ∧ judge [] = none ∧
    (online.setTrunk { online.trunk with unseenStart := true }).trunk.unseenStart = true ∧
    State.reset.settings = none ∧ State.reset.trunk.line ≠ .stuck ∧
    State.reset.claim.leaveDeferred = false ∧ (State.reset.setLine .stuck).trunk.line = .stuck := by
  unfold State.uninvolved; decide +kernel

/-- The collision before the last one that QUIET allows, and the last; a queue's DATA and a REPLY on the line. -/
theorem witness_CollidedClaimsLeadToQuiet :
    claiming.trunk.transmission.map (·.item.claimed) = some true ∧ claiming.trunk.line ≠ .stuck ∧
    claiming.trunk.line ≠ .idle ∧ claiming.claim.leaveDeferred = false ∧
    claiming.settings.isSome = true ∧ claiming.claim.collisionCount < 7 ∧ claiming.claim.state = .active ∧
    7 ≤ (claiming.setClaim { claiming.claim with collisionCount := 7 }).claim.collisionCount ∧
    dataOut.trunk.transmission.map (·.item) = some (.queue 0 .data) ∧ dataOut.queue 0 = .running inFlight ∧
    dataOut.trunk.watch = none ∧
    (after .replyStart (online.compose ownPresence)).trunk.transmission.map (·.item) = some .reply := by
  decide +kernel

/-- The DATA of the station meets a mismatch, and the activity ends as a frame of station 9. -/
theorem witness_collision_with_a_valid_frame :
    let s := after .transmitMismatch (after (.slotBegin false) sending)
    s.trunk.transmission.map (fun t => (t.item.claimed, t.phase)) = some (true, .mismatched) ∧ s.canEnd ∧
    s.claim.leaveDeferred = false ∧ s.claim.state = .active ∧ s.claim.collisionCount < 7 := by
  unfold State.canEnd; decide +kernel

theorem witness_StuckLineSendsTheStationListening :
    watching.trunk.line ≠ .stuck ∧ watching.settings.isSome = true ∧
    (opened.setLine .activeRx).trunk.line ≠ .stuck ∧ (opened.setLine .activeRx).trunk.line ≠ .idle ∧
    (opened.setLine .activeRx).settings = none ∧ (online.setLine .stuck).trunk.line = .stuck := by
  decide +kernel

theorem witness_JoinQuietAndQuietExpiryMoveTheStation :
    let s := online.setClaim { online.claim with state := .listening, joinCount := some 288 }
    let u := online.setClaim { online.claim with state := .quiet, quietTimer := some 0 }
    s.claim.state = .listening ∧ s.claim.joinCount = some 288 ∧ u.claim.state = .quiet ∧
    u.claim.quietTimer = some 0 ∧ (from9 none (.presence true)).body.claimed = true := by decide +kernel

theorem online_canEnd : online.canEnd ∧ online.uninvolved ∧ known.canEnd ∧ known.uninvolved ∧
    stocked.canEnd ∧ stocked.uninvolved ∧ watching.canEnd ∧ querying.canEnd := by
  unfold State.canEnd State.uninvolved; decide +kernel

theorem witness_LastWinnerFollowsClaimedFrames :
    let f := from9 (some 10) (.reply 1 0 false 3)
    judge (onLine f) = some f ∧ f.body.claimed = false ∧
    judge (onLine (from9 none (.presence true))) = some (from9 none (.presence true)) ∧
    (online.setLine .stuck).trunk.line = .stuck ∧ exec .selRise online = .next (after .selRise online) := by
  refine ⟨?_, ?_, ?_, rfl, rfl⟩ <;> decide +kernel

theorem witness_TrunkStateChangesOnlyAsTabled : Timers State.reset ∧
    exec .ident State.reset = .next State.reset :=
  ⟨⟨by decide, by decide, by decide, by decide⟩, rfl⟩

/-- A first hearing, a hearing without a restart, a FRESH_START, and another epoch with a step under way. -/
theorem witness_HearingAPeerUpdatesItsEntry :
    let f := from9 none (.presence false)
    let g := from9 (some 10) (.reply 1 0 false 3)
    let h := from9 none (.presence true)
    judge (onLine f) = some f ∧ judge (onLine g) = some g ∧ judge (onLine h) = some h ∧
    (∀ x ∈ ([from9 (some 10) (.data 0 [1]), from9 none (.bcast [1]), from9 (some 10) (.notice 0 7),
      from9 (some 10) .step, from9 none (.credit 4)] : List Frame), judge (onLine x) = some x) ∧
    f.src ≠ online.own ∧ (online.peer 9).epoch = none ∧ (known.peer 9).epoch = some f.epoch ∧
    (stale.peer 9).epoch = some 2 ∧ stale.reveals f = true ∧ inFlight.station = some 9 ∧
    inFlight.outcome = none ∧ 3 ≤ (stale.sendPair 9 2).blind := by
  decide +kernel

theorem witness_TimersExpire :
    (known.peer 9).state = .present ∧ (known.peer 9).silence = some 0 ∧
    (online.setPeers { online.peers with presenceTimer := some 32000 }).peers.presenceTimer = some 32000 ∧
    (sending.setQueue 0 (.held { inFlight with hold := some 0 })).queue 0 =
      .held { inFlight with hold := some 0 } ∧ inFlight.pair = some (9, 2) := by decide +kernel

theorem witness_PeerStatesChangeOnlyAsTabled :
    exec (.silenceTimerExpiry 9) known = .next (after (.silenceTimerExpiry 9) known) := rfl

theorem witness_OwnCleanPresenceIsHeardByItself :
    judge (onLine ownPresence) = some ownPresence ∧ ownPresence.body.claimed = true ∧
    ownPresence.src = claiming.own ∧
    claiming.trunk.transmission.map (fun t => (t.phase, t.item)) = some (.complete, .presence) ∧
    claiming.trunk.line = .activeTx ∧ claiming.trunk.unseenStart = false ∧
    claiming.trunk.watch = none ∧ claiming.claim.leaveDeferred = false ∧
    claiming.claim.state = .active ∧ claiming.settings.isSome = true := by decide +kernel

/-- R133: the clean end of the own CREDIT empties the waiter set of inbox 2. -/
theorem test_own_credit_clean :
    let f : Frame := { epoch := 3, src := 5, ch := 2, dst := none, body := .credit 2 }
    let s := stocked.setInbox 2 { stocked.inbox 2 with waiters := 0x200, announce := true }
    let t := after (.validFrameEnd (onLine f)) (after .transmissionComplete (after (.slotBegin false) s))
    (t.inbox 2).waiters = 0 ∧ (t.inbox 2).announce = false ∧ (t.inbox 2).free.length = 2 := by
  decide +kernel

/-- The DATA frames of the witnesses below: SEQ 0 and SEQ 5, with 3 octets, from station 9. -/
theorem data_judged :
    judge (onLine (from9 (some 5) (.data 0 [1, 2, 3]))) = some (from9 (some 5) (.data 0 [1, 2, 3])) ∧
    judge (onLine (from9 (some 5) (.data 5 [1, 2, 3]))) = some (from9 (some 5) (.data 5 [1, 2, 3])) := by
  decide +kernel

/-- Inbox 2 with one buffer of 2 octets. -/
def shortBuffer : Inbox := { Inbox.initial with free := [{ address := 0, capacity := 2 }] }

/-- The settings with every inbox disabled. -/
def closedSettings : Settings :=
  { settings with inboxes := Vector.replicate 8 { enabled := false, broadcast := true, sources := 0x600 } }

/-- Each check of Table 6-1: closed, duplicate, out of step, full, too long. -/
theorem witness_RefusedDataFramesAreAnswered :
    stocked.claim.state = .active ∧ ((9 : Station) ≠ stocked.own) ∧
    (stocked.setSettings (some closedSettings)).dataOpen 9 2 = false ∧
    (stocked.inboxSetting 2).enabled = true ∧ (stocked.inboxSetting 2).sources.getLsbD 9 = true ∧
    (stocked.setReceivePair 9 2 (some 5)).receivePair 9 2 = some 5 ∧
    (stocked.setReceivePair 9 2 (some 7)).receivePair 9 2 = some 7 ∧
    (known.inbox 2).offered = 0 ∧ known.receivePair 9 2 = none ∧
    (stocked.setInbox 2 shortBuffer).inbox 2 = shortBuffer := by decide +kernel

/-- A station that is not ACTIVE, a frame from the own address, and one addressed to another station. -/
theorem witness_undecided_frames :
    (online.setTrunkState .listening).claim.state ≠ .active ∧
    judge (onLine { ownPresence with dst := some 5, body := .step }) =
      some { ownPresence with dst := some 5, body := .step } ∧
    judge (onLine (from9 (some 10) .step)) = some (from9 (some 10) .step) ∧
    (from9 (some 10) .step).dst ≠ some online.own := by decide +kernel

/-- A buffer that the payload fills exactly, at the top of packet memory; a FRESH record, and SEQ 0 after
15. -/
theorem witness_AcceptedDataIsStoredWhole :
    MemoryForm stocked ∧ Buffer.inside { address := 32765, capacity := 3 } ∧
    (stocked.inbox 2).free = [{ address := 32765, capacity := 3 }, { address := 0, capacity := 1 }] ∧
    (stocked.inbox 2).arrivals.length < 64 ∧ stocked.receivePair 9 2 = none ∧
    (stocked.setReceivePair 9 2 (some 15)).receivePair 9 2 = some ((0 : Seq) - 1) := by
  unfold MemoryForm Buffer.inside; decide +kernel

theorem validFrameEnd_after (l : List Character) (s : State) :
    exec (.validFrameEnd l) s = .next (after (.validFrameEnd l) s) := by
  simp only [after, exec, execValidFrameEnd]
  cases s.trunk.line <;> rfl

theorem witness_RepeatedDataIsStoredOnce :
    let c : Instr := .validFrameEnd (onLine (from9 (some 5) (.data 0 [1, 2, 3])))
    let t := after c stocked
    exec c stocked = .next t ∧ t.receivePair 9 2 = some 0 ∧ exec c t = .next (after c t) :=
  ⟨validFrameEnd_after _ _, by decide +kernel, validFrameEnd_after _ _⟩

theorem witness_StepQueriesAreAnsweredFromTheRecord :
    judge (onLine (from9 (some 5) .step)) = some (from9 (some 5) .step) ∧
    stocked.claim.state = .active ∧ (stocked.peer 9).epoch = some 4 ∧
    ((stocked.setPeer 9 { stocked.peer 9 with epoch := some 3 }).peer 9).epoch = some 3 := by
  decide +kernel

/-- Room for the broadcast; a full arrival list; no buffer; a buffer too short; a station not ACTIVE. -/
theorem witness_BroadcastsAreAcceptedOrCounted :
    let f := from9 none (.bcast [1, 2, 3])
    judge (onLine f) = some f ∧ MemoryForm stocked ∧ stocked.claim.state = .active ∧
    (stocked.inboxSetting 2).broadcast = true ∧ (stocked.inbox 2).arrivals.length < 64 ∧
    (known.inbox 2).free = [] ∧ (stocked.setTrunkState .quiet).claim.state ≠ .active ∧
    judge (onLine { f with src := 5 }) = some { f with src := 5 } ∧ (5 : Station) = stocked.own ∧
    (stocked.setInbox 2 shortBuffer).inbox 2 = shortBuffer := by
  unfold MemoryForm; decide +kernel

/-- An open word, a word restricted to the writer, a closed one; read and unread. -/
theorem witness_NoticesAreDecidedByTable :
    let f := from9 (some 5) (.notice 0 7)
    judge (onLine f) = some f ∧ known.access 0 = .opened ∧ known.access 1 = .restricted 9 ∧
    known.access 2 = .closed ∧ (known.word 0).unread = false ∧
    ((known.setWord 0 { NoticeWord.initial with unread := true }).word 0).unread = true := by
  decide +kernel

/-- OFFER 0, and OFFER 63 with a HELD queue that has the lock; a CREDIT that reveals a restart. -/
theorem witness_CreditSetsTheHintAndReleases :
    let s := sending.setQueue 0 (.held { inFlight with hold := some 5 })
    judge (onLine (from9 none (.credit 0))) = some (from9 none (.credit 0)) ∧
    judge (onLine (from9 none (.credit 63))) = some (from9 none (.credit 63)) ∧
    (s.sendPair 9 2).lock = some 0 ∧ s.queue 0 = .held { inFlight with hold := some 5 } ∧
    (s.peer 9).epoch = some 4 ∧ stale.reveals (from9 none (.credit 0)) = true := by decide +kernel

/-- The highest octets that DESC_WRITE takes, with a disarmed and an armed descriptor. -/
theorem witness_DescWriteFillsADisarmedDescriptor :
    descWriteInRange 127 0x22 31 0x7FFF 127 ∧ descWriteInRange 127 0x05 15 0x7FFF 255 ∧
    descWriteInRange 7 0x09 255 0 0 ∧ (127 : Octet) = octet (127 : DescIx).val ∧
    (online.desc 127).armed = false ∧ (armed.desc 7).armed = true := by
  unfold descWriteInRange; decide +kernel

/-- One beyond each of them: index, kind, destination type, station. -/
theorem witness_descWrite_out_of_range :
    ¬ descWriteInRange 128 0x22 31 0x7FFF 127 ∧ ¬ descWriteInRange 127 0x03 31 0x7FFF 127 ∧
    ¬ descWriteInRange 127 0x0C 31 0x7FFF 127 ∧ ¬ descWriteInRange 127 0x22 32 0x7FFF 127 := by
  unfold descWriteInRange; decide +kernel

/-- List, address, link. -/
theorem witness_descWrite_out_of_range' :
    ¬ descWriteInRange 127 0x05 16 0x7FFF 127 ∧ ¬ descWriteInRange 127 0x22 31 0x8000 127 ∧
    ¬ descWriteInRange 127 0x22 31 0x7FFF 128 ∧ ¬ descWriteInRange 127 0x22 31 0x7FFF 254 := by
  unfold descWriteInRange; decide +kernel

theorem witness_DisarmAndListWriteActOnTheStore :
    (online.desc 7).armed = false ∧ (armed.desc 7).armed = true ∧ (armed.desc 7).holder = none ∧
    (sending.desc 7).holder.isSome = true ∧ (armed.setQueue 3 (.waitingAt 7)).queue 3 = .waitingAt 7 ∧
    128 ≤ (128 : Octet).toNat ∧ (Instr.listWrite 15 2 [0, 31]).wellFormed = true ∧
    online.listWriteInRange 15 2 [0, 31] := by
  unfold State.listWriteInRange; decide +kernel

theorem witness_listWrite_out_of_range :
    ¬ online.listWriteInRange 16 1 [0] ∧ ¬ online.listWriteInRange 15 0 [] ∧
    ¬ online.listWriteInRange 15 9 [] := by
  unfold State.listWriteInRange; decide +kernel

theorem witness_listWrite_stations_refused :
    ¬ online.listWriteInRange 15 1 [32] ∧ ¬ online.listWriteInRange 15 2 [4, 4] ∧
    ¬ online.listWriteInRange 15 1 [5] := by
  unfold State.listWriteInRange; decide +kernel

/-- A STOPPED queue, one that waits at the descriptor, one that waits after another whose link it is. -/
theorem witness_StartAndResumeTakeAnAvailableMessage :
    armed.canTake (.queueStart 0 7) 0 7 ∧
    (armed.setQueue 0 (.waitingAt 7)).canTake (.queueResume 0) 0 7 ∧
    ((armed.setQueue 0 (.waitingAfter 8)).setDesc 8
      { Descriptor.initial with host := { letter with link := some 7 } }).canTake (.queueResume 0) 0 7 := by
  refine ⟨.inl ⟨by decide, ?_⟩, .inr ⟨by decide, .inl ?_⟩, .inr ⟨by decide, .inr ⟨8, ?_⟩⟩⟩ <;>
    decide +kernel

/-- A free lock, a lock that is taken, a hint of 0. -/
theorem witness_message_taken :
    armed.isAvailable 7 ∧ armed.hasMessage 7 9 [] [] ∧ (armed.sendPair 9 2).lock = none ∧
    ((armed.setSendPair 9 2 { SendPair.initial with lock := some 1 }).sendPair 9 2).lock ≠ none ∧
    (armed.setHint 9 2 (some 0)).hint 9 2 = some 0 ∧ armed.hint 9 2 ≠ some 0 := by
  unfold State.hasMessage State.isAvailable
  refine ⟨?_, ⟨rfl, ?_, .inl ?_⟩, ?_⟩ <;> decide +kernel

theorem armed_not_malformed : ¬ armed.malformed (armed.desc 7).host ∧
    ¬ armedList.malformed (armedList.desc 7).host := by
  unfold State.malformed; decide +kernel

/-- A list whose first station is SILENT, and one that holds only SILENT stations. -/
theorem witness_fanout_taken :
    armedList.hasMessage 7 9 [10] [] ∧ armedList.isAvailable 7 ∧ (armedList.desc 7).host.link = none ∧
    armedList.log.length < 64 ∧
    ∀ p ∈ (armedList.setFanout 3 [10]).fanout 3, ((armedList.setFanout 3 [10]).peer p).state = .silent := by
  unfold State.hasMessage State.isAvailable
  refine ⟨⟨rfl, ?_, .inr ⟨3, ?_⟩⟩, ?_⟩ <;> decide +kernel

/-- A NOTICE, a BROADCAST, and a SILENT station. -/
theorem witness_notice_and_broadcast_taken :
    let n := known.setDesc 7 { Descriptor.initial with host := { letter with kind := .notice }, armed := true }
    let b := known.setDesc 7
      { Descriptor.initial with host := { letter with kind := .broadcast, destination := .all }, armed := true }
    ¬ n.malformed (n.desc 7).host ∧ ¬ b.malformed (b.desc 7).host ∧ (n.peer 9).state ≠ .silent ∧
    (after (.silenceTimerExpiry 9) armed).peer 9 = { known.peer 9 with state := .silent, silence := none } := by
  unfold State.malformed; decide +kernel

/-- R68, R70: the SILENT station is passed over, and a list of SILENT stations is settled at once. -/
theorem test_queueStart_fanout :
    ((after (.queueStart 0 7) armedList).queue 0).codes.1 = 2 ∧
    ((after (.queueStart 0 7) armedList).queue 0).context.map (·.outcomes) = some [.peerSilent, .notTried] ∧
    ((after (.queueStart 0 7) (armedList.setFanout 3 [10])).desc 7).outcome = some .undelivered := by
  decide +kernel

/-- A MESSAGE of length 0 is malformed. -/
theorem witness_QueueStartAndResumeActByState :
    let m := known.setDesc 7 { Descriptor.initial with host := { letter with length := 0 }, armed := true }
    online.queue 0 = .stopped ∧ ¬ online.isAvailable 7 ∧
    sending.queue 0 ≠ .stopped ∧ (online.setQueue 0 (.waitingAt 7)).queue 0 = .waitingAt 7 ∧
    (armed.setQueue 0 (.waitingAfter 7)).queue 0 = .waitingAfter 7 ∧ (armed.desc 7).host.link = none ∧
    (online.desc 7).host.link = some 0 ∧ ¬ online.isAvailable 0 ∧
    (∀ e, online.queue 0 ≠ .waitingAt e ∧ online.queue 0 ≠ .waitingAfter e) ∧
    m.isAvailable 7 ∧ m.malformed (m.desc 7).host ∧ (m.desc 7).host.link = none ∧ m.log.length < 64 ∧
    4 ≤ (4 : Octet).toNat ∧ 128 ≤ (128 : Octet).toNat := by
  unfold State.isAvailable State.malformed
  decide +kernel

theorem witness_QueueStopActsByState :
    online.queue 0 = .stopped ∧ (online.setQueue 0 (.stopping inFlight)).queue 0 = .stopping inFlight ∧
    (online.setQueue 0 (.waitingAt 7)).queue 0 = .waitingAt 7 ∧
    (online.setQueue 0 (.blockedLog inFlight)).queue 0 = .blockedLog inFlight ∧
    inFlight.toOne 9 ∧ sending.queue 0 = .running inFlight ∧ sending.log.length < 64 := by
  unfold Context.toOne; decide +kernel

/-- A reply watch is open, a DATA is on the line, and neither. -/
theorem witness_frames_on_the_trunk :
    watching.onTrunk 0 ∧ dataOut.onTrunk 0 ∧ ¬ sending.onTrunk 0 := by
  refine ⟨.inr ⟨_, rfl, rfl⟩, .inl ⟨_, _, rfl, rfl⟩, ?_⟩
  rintro (⟨_, _, h, _⟩ | ⟨_, h, _⟩) <;> exact nomatch h

/-- The queue was stopped with its DATA on the line, and with its reply watch open. -/
theorem witness_stopping_queues :
    let c := { inFlight with stepAttempts := 2, attempts := 2, seqSent := some 0 }
    (after (.queueStop 0) watching).queue 0 = .stopping c ∧ c.toOne 9 ∧ c.pair = some (9, 2) ∧
    (after (.queueStop 0) watching).log.length < 64 ∧
    (after (.queueStop 0) watching).trunk.watch = some { queue := 0, frame := .data, station := 9 } ∧
    (after (.queueStop 0) watching).trunk.transmission = none ∧
    (after (.queueStop 0) watching).trunk.line = .idle ∧
    (after (.queueStop 0) dataOut).queue 0 = .stopping inFlight ∧
    (after (.queueStop 0) dataOut).trunk.transmission.map (·.item) = some (.queue 0 .data) := by
  unfold Context.toOne; decide +kernel

/-- What the reply statements share: the reply of each code is judged, and the watch is open for it. -/
theorem replies_judged :
    (∀ code ∈ ([1, 2, 3, 4, 5, 6] : List Octet),
      judge (onLine (from9 (some 5) (.reply code 15 false 0))) =
        some (from9 (some 5) (.reply code 15 false 0))) ∧
    judge (onLine (from9 (some 5) (.reply 7 0 true 63))) =
      some (from9 (some 5) (.reply 7 0 true 63)) ∧
    watching.trunk.watch = some { queue := 0, frame := .data, station := 9 } ∧
    querying.trunk.watch = some { queue := 0, frame := .step, station := 9 } ∧
    watching.trunk.transmission = none ∧ watching.claim.leaveDeferred = false ∧
    watching.settings.isSome = true ∧ (watching.peer 9).epoch = some 4 ∧ (9 : Station) ≠ watching.own := by
  decide +kernel

theorem witness_RepliesMoveThePairRecord :
    let c := { inFlight with stepAttempts := 2, attempts := 2, seqSent := some 0 }
    watching.queue 0 = .running c ∧ querying.queue 0 = .running c ∧ c.pair = some (9, 2) ∧
    c.outcome = none ∧ watching.canEnd ∧ querying.canEnd ∧
    stale.reveals (from9 (some 5) (.reply 7 0 true 63)) = true :=
  ⟨by decide +kernel, by decide +kernel, by decide, by decide, online_canEnd.2.2.2.2.2.2.1,
    online_canEnd.2.2.2.2.2.2.2, by decide +kernel⟩

/-- Patience not spent, and patience that the next FULL spends. -/
theorem witness_RepliesThatLeaveTheStepUnderWay :
    ¬ (1 ≤ watching.patience ∧ watching.patience ≤ min 255 (inFlight.fullCount + 1)) ∧
    (1 ≤ watching.patience ∧
      watching.patience ≤ min 255 ({ inFlight with fullCount := 2 }.fullCount + 1)) ∧
    watching.patience = 3 ∧ watching.hint 9 2 ≠ some 0 := by decide +kernel

/-- With a record required and without one; a queue that awaits the lock, and none; a full log. -/
theorem witness_DeliveredMessageIsHandedBack :
    let c := { inFlight with stepAttempts := 2, attempts := 2, seqSent := some 0 }
    let u := watching.setQueue 2 (.running { inFlight with lock := .awaited })
    c.toOne 9 ∧ c.lock = .taken ∧ watching.log.length < 64 ∧ (watching.desc c.head).host.link = none ∧
    c.copy.notify = false ∧ (watching.queueSetting 0).logAll = false ∧
    (watching.queueSetting 2).logAll = true ∧ (watching.sendPair 9 2).blind = 0 ∧
    (∀ r : QueueIx, r ≠ 0 → (watching.queue r).awaits 9 2 = none) ∧
    (u.queue (0 + Fin.ofNat 4 2)).awaits 9 2 = some { inFlight with lock := .awaited } ∧
    (u.queue (0 + Fin.ofNat 4 1)).awaits 9 2 = none ∧
    64 ≤ (watching.setLog (List.replicate 64
      { queue := 1, descriptor := 2, outcome := .stopped, attempts := 3, late := 1, perDest := none })
      ).log.length := by
  unfold Context.toOne; decide +kernel

/-- The link names a descriptor that is not available, an available MESSAGE on the pair just left, and an
available BROADCAST. -/
theorem witness_link_followed :
    let linked := watching.setDesc 7
      { watching.desc 7 with host := { letter with link := some 8 } }
    let next (h : HostFields) := linked.setDesc 8 { Descriptor.initial with host := h, armed := true }
    (linked.desc 7).host.link = some 8 ∧ ¬ linked.isAvailable 8 ∧ (next letter).isAvailable 8 ∧
    ¬ (next letter).malformed letter ∧ (next letter).hasMessage 8 9 [] [] ∧
    ¬ (next letter).malformed { letter with kind := .broadcast, destination := .all } := by
  unfold State.isAvailable State.malformed State.hasMessage
  refine ⟨?_, ?_, ?_, ?_, ⟨rfl, ?_, .inl ?_⟩, ?_⟩ <;> decide +kernel

/-- R66, R72, R79: the queue goes on with the next message, on the pair it has just left. -/
theorem test_link_followed :
    let s := (watching.setDesc 7 { watching.desc 7 with host := { letter with link := some 8 } }).setDesc 8
      { Descriptor.initial with host := letter, armed := true }
    let t := after (.validFrameEnd (onLine (from9 (some 5) (.reply 1 0 false 0)))) s
    ((t.queue 0).context.map (·.head), (t.queue 0).codes.1, (t.desc 7).outcome, (t.desc 8).holder,
      (t.sendPair 9 2).lock) = (some 8, 3, some .delivered, some 0, some 0) := by decide +kernel

/-- The last step of a fan-out MESSAGE, and the first, which another follows. -/
theorem witness_fanout_steps :
    let first := { fanning with current := 1, destinations := .list [9, 10], outcomes := [.notTried, .notTried] }
    fanning.pair = some (9, 2) ∧ fanning.outcomes.length = [10, 9].length ∧
    fanning.current = [10, 9].length ∧ fanning.outcome = none ∧
    first.pair = some (9, 2) ∧ [(9 : Station), 10][first.current]? = some 10 ∧
    (watching.peer 10).state ≠ .silent := by decide +kernel

/-- The last attempt within the retry limit of 1, and the one past it; frames that do not answer: another
station's, a REPLY whose code does not fit, and a CREDIT of the pair. -/
theorem witness_UnansweredAttemptsAreRetriedThenGivenUp :
    let c := { inFlight with stepAttempts := 2, attempts := 2, seqSent := some 0 }
    watching.trunk.line = .idle ∧ watching.retryLimit = 1 ∧ watching.retryLimit < c.stepAttempts ∧
    { c with stepAttempts := 1 }.stepAttempts ≤ watching.retryLimit ∧ c.toOne 9 ∧
    watching.trunk.transmission = none ∧ watching.trunk.line ≠ .stuck ∧
    judge (onLine (from9 none (.presence false))) = some (from9 none (.presence false)) ∧
    judge (onLine (from9 (some 5) (.reply 7 0 true 0))) = some (from9 (some 5) (.reply 7 0 true 0)) ∧
    judge (onLine (from9 none (.credit 4))) = some (from9 none (.credit 4)) ∧
    (from9 none (.credit 4)).src = 9 ∧ (from9 none (.credit 4)).ch = 2 ∧ 9 ≠ watching.own := by
  unfold Context.toOne; decide +kernel

/-- A NOTICE whose watch is open, its last attempt within the limit and the one past it. -/
theorem witness_unanswered_notice :
    let n := { inFlight with lock := .none, stepAttempts := 1, copy := { letter with kind := .notice } }
    let s := (watching.setQueue 0 (.running n)).setTrunk
      { watching.trunk with watch := some { queue := 0, frame := .notice, station := 9 } }
    s.queue 0 = .running n ∧ n.outcome = none ∧ n.toOne 9 ∧ n.pair = none ∧ ¬ s.retryLimit < n.stepAttempts ∧
    s.retryLimit < { n with stepAttempts := 2 }.stepAttempts ∧ s.trunk.transmission = none ∧
    s.trunk.line ≠ .stuck := by
  unfold Context.toOne; decide +kernel

/-- The own DATA on the line, complete; a BROADCAST and a NOTICE in flight. -/
theorem witness_CleanEndsAndNoticeRepliesDecideSteps :
    let b := { inFlight with lock := .none, copy := { letter with kind := .broadcast }, destinations := .all }
    let n := { inFlight with lock := .none, copy := { letter with kind := .notice } }
    judge (onLine ownPresence) = some ownPresence ∧ ownPresence.src = dataOut.own ∧
    ownPresence.body.claimed = true ∧
    dataOut.trunk.transmission.map (fun t => (t.phase, t.item)) = some (.complete, .queue 0 .data) ∧
    dataOut.trunk.line = .activeTx ∧ dataOut.trunk.unseenStart = false ∧ dataOut.trunk.watch = none ∧
    dataOut.claim.leaveDeferred = false ∧ dataOut.settings.isSome = true ∧
    dataOut.queue 0 = .running inFlight ∧ dataOut.log.length < 64 ∧ inFlight.station = some 9 ∧
    (dataOut.setQueue 0 (.running b)).queue 0 = .running b ∧ b.outcomes.length = 1 ∧ n.toOne 9 ∧
    (∀ code ∈ ([8, 9, 10] : List Octet), judge (onLine (from9 (some 5) (.reply code 0 false 0))) =
      some (from9 (some 5) (.reply code 0 false 0))) := by
  unfold Context.toOne; decide +kernel

theorem witness_LogTakeReportsTheOldestAndServesOne :
    online.log = [] ∧ blocked.log.length = 1 ∧ (blocked.queue 0).waitsForRoom = true ∧
    (∀ q : QueueIx, (sending.queue q).waitsForRoom = false) ∧
    (online.setQueue 3 (.stopping { inFlight with outcome := some .noReply })).queue 3 =
      .stopping { inFlight with outcome := some .noReply } := by decide +kernel

/-- An inbox whose arrival list is full. -/
def fullInbox : Inbox :=
  { Inbox.initial with
    arrivals := List.replicate 64
      { source := 9, kind := .data, length := 1, buffer := { address := 0, capacity := 1 }, seq := some 0 } }

/-- The longest buffer at the top of packet memory; an inbox not enabled; a full free list; an empty and a
full arrival list. -/
theorem witness_InboxCommandsMoveBuffersAndArrivals :
    (1 : Half).toNat = 1 ∧ (0x200 : Half).toNat = 512 ∧ (0x7E00 : Nat) + 512 = 32768 ∧
    (stocked.inboxSetting 2).enabled = true ∧ (stocked.inbox 2).free.length < 32 ∧
    (stocked.setSettings none |>.inboxSetting 2).enabled = false ∧
    32 ≤ ((stocked.setInbox 2 { Inbox.initial with
      free := List.replicate 32 { address := 0, capacity := 1 } }).inbox 2).free.length ∧
    (stocked.inbox 2).arrivals = [] ∧
    ((stocked.setInbox 2 fullInbox).inbox 2).arrivals.length = 64 := by decide +kernel

/-- The first number out of range of each command, and a state for each state of a queue. -/
theorem witness_numbers_out_of_range :
    8 ≤ (8 : Octet).toNat ∧ 32768 ≤ (0x8000 : Half).toNat ∧ 4 ≤ (4 : Octet).toNat ∧
    32 ≤ (32 : Octet).toNat ∧ 128 ≤ (128 : Octet).toNat ∧
    (online.setQueue 0 (.waitingAfter 7)).queue 0 = .waitingAfter 7 ∧
    (sending.queue 0).context = some inFlight ∧ (online.queue 0).context = none := by decide +kernel

theorem witness_StepsKeepMemorySizesAndAnnouncements :
    step State.reset = .next State.reset.tick ∧ MemoryForm State.reset ∧ Announcements stocked ∧
    Capacity stocked := by
  refine ⟨rfl, rfl, ?_, ?_⟩
  · unfold Announcements; decide +kernel
  · have : ∀ q, (stocked.queue q).context = none := by decide +kernel
    constructor
    case contexts => intro q c h; rw [this q] at h; cases h
    all_goals
      try unfold withinWriteBack
      try unfold Buffer.inside
      decide +kernel

/-- Queue 0 holds the lock of pair (9, 2), and no other queue holds any. -/
theorem witness_StepsKeepLocksWithTheirQueues : Locks sending := by
  have hl : ∀ p i q, (sending.sendPair p i).lock = some q ↔ q = 0 ∧ p = 9 ∧ i = 2 := by decide +kernel
  have hq : ∀ q, (sending.queue q).context = if q = 0 then some inFlight else none := by decide +kernel
  have hs : sending.queue 0 = .running inFlight ∧ ∀ q, q ≠ 0 → sending.queue q = .stopped := by
    decide +kernel
  refine ⟨fun p i q => ?_, fun q => ?_⟩
  · rw [hl]; unfold QueueState.holdsLock; rw [hq]
    have hp : inFlight.lock = .taken ∧ inFlight.pair = some (9, 2) := by decide
    constructor
    · rintro ⟨rfl, rfl, rfl⟩; exact ⟨inFlight, rfl, hp⟩
    · rintro ⟨c, hc, -, hcp⟩
      by_cases h : q = 0
      · rw [if_pos h, Option.some.injEq] at hc
        subst hc; rw [hp.2] at hcp; simp only [Option.some.injEq, Prod.mk.injEq] at hcp
        exact ⟨h, hcp.1.symm, hcp.2.symm⟩
      · rw [if_neg h] at hc; cases hc
  · by_cases h : q = 0
    · rw [h, hs.1]; rfl
    · rw [hs.2 q h]; trivial

/-- Queue 0 is the holder of descriptor 7. -/
theorem witness_StepsKeepHoldersWithTheirQueues : Holders sending := by
  have hd : ∀ d q, (sending.desc d).holder = some q ↔ q = 0 ∧ d = 7 := by decide +kernel
  have hq : ∀ q, (sending.queue q).context = if q = 0 then some inFlight else none := by decide +kernel
  refine ⟨fun d q => ?_, by decide +kernel⟩
  rw [hd, hq]
  constructor
  · rintro ⟨rfl, rfl⟩; exact ⟨inFlight, rfl, rfl⟩
  · rintro ⟨c, hc, rfl⟩
    by_cases h : q = 0
    · rw [if_pos h, Option.some.injEq] at hc; subst hc; exact ⟨h, rfl⟩
    · rw [if_neg h] at hc; cases hc

end Sys2Proof.Tests
end

section
/-!
PROOFS. The inbox unit at the end of a valid frame of another station (chapter 6). `ReceiverKeeps` says what
the work of a frame's end before the inbox unit leaves it; the frame's end is then the hearing of the source
followed by `State.arrival`.
-/

namespace Sys2Proof.Machine

/-! ### What the inbox unit decides from -/

/-- The blocks that the inbox unit and the notice words read, and the exchanges under way, are the same. -/
structure ReceiverKeeps (s t : State) : Prop where
  straps : t.straps = s.straps
  settings : t.settings = s.settings
  peers : t.peers = s.peers
  inboxes : t.inboxes = s.inboxes
  words : t.words = s.words
  counters : t.counters = s.counters
  memory : t.memory = s.memory
  watch : t.trunk.watch = s.trunk.watch
  transmission : t.trunk.transmission = s.trunk.transmission

namespace ReceiverKeeps

theorem refl (s : State) : ReceiverKeeps s s := by
  constructor <;> rfl

theorem trans {s t u : State} (h : ReceiverKeeps s t) (k : ReceiverKeeps t u) : ReceiverKeeps s u where
  straps := k.straps.trans h.straps
  settings := k.settings.trans h.settings
  peers := k.peers.trans h.peers
  inboxes := k.inboxes.trans h.inboxes
  words := k.words.trans h.words
  counters := k.counters.trans h.counters
  memory := k.memory.trans h.memory
  watch := k.watch.trans h.watch
  transmission := k.transmission.trans h.transmission

variable {s t : State}

theorem own (h : ReceiverKeeps s t) : t.own = s.own := by
  simp only [State.own, h.straps]

theorem configured (h : ReceiverKeeps s t) : t.configured = s.configured := by
  simp only [State.configured, h.settings]

theorem epoch (h : ReceiverKeeps s t) : t.epoch = s.epoch := by
  simp only [State.epoch, h.settings]

theorem peer (h : ReceiverKeeps s t) (p : Station) : t.peer p = s.peer p := by
  simp only [State.peer, h.peers]

theorem receivePair (h : ReceiverKeeps s t) (p : Station) (i : InboxIx) :
    t.receivePair p i = s.receivePair p i := by
  simp only [State.receivePair, h.peer]

theorem inbox (h : ReceiverKeeps s t) (i : InboxIx) : t.inbox i = s.inbox i := by
  simp only [State.inbox, h.inboxes]

/-- The same peer entry written on both sides. -/
theorem setPeer (h : ReceiverKeeps s t) (p : Station) (x : PeerEntry) :
    ReceiverKeeps (s.setPeer p x) (t.setPeer p x) where
  straps := h.straps
  settings := h.settings
  peers := by simp only [setPeer_peers, h.peers]
  inboxes := h.inboxes
  words := h.words
  counters := h.counters
  memory := h.memory
  watch := h.watch
  transmission := h.transmission

end ReceiverKeeps

section
variable (s : State)

theorem setClaim_receiver (x : ClaimUnit) : ReceiverKeeps s (s.setClaim x) := by
  constructor <;> rfl

theorem setQueues_receiver (x : Vector QueueState 4) : ReceiverKeeps s (s.setQueues x) := by
  constructor <;> rfl

theorem setAttention_receiver (x : Attention) : ReceiverKeeps s (s.setAttention x) := by
  constructor <;> rfl

theorem discardReply_receiver : ReceiverKeeps s s.discardReply := by
  constructor <;> rfl

theorem compose_receiver (f : Frame) : ReceiverKeeps s (s.compose f) := by
  constructor <;> rfl

@[simp] theorem compose_reply (f : Frame) : (s.compose f).trunk.reply = some f := rfl

theorem keepOctets_receiver (l : List Octet) : ReceiverKeeps s (s.keepOctets l) := by
  constructor <;> rfl

theorem activityBegins_receiver : ReceiverKeeps s s.activityBegins := by
  unfold State.activityBegins; split
  · constructor <;> rfl
  · exact .refl s

theorem finishLeave_receiver : ReceiverKeeps s s.finishLeave := by
  unfold State.finishLeave; split
  · exact (setClaim_receiver ..).trans (discardReply_receiver _)
  · exact .refl s

theorem lineEnds_receiver : ReceiverKeeps s s.lineEnds := by
  have idle : ReceiverKeeps s ((s.setTrunk { s.trunk with line := .idle, unseenStart := false }).setClaim
      { s.claim with idleTime := 0 }) := by
    constructor <;> rfl
  unfold State.lineEnds; dsimp only; split
  · exact idle.trans (finishLeave_receiver _)
  · exact idle

theorem claimValid_receiver (f : Frame) : ReceiverKeeps s (s.claimValid f) := by
  unfold State.claimValid; dsimp only; split
  · split
    · exact (setClaim_receiver s _).trans (setClaim_receiver ..)
    · exact setClaim_receiver ..
  · split
    · exact setClaim_receiver ..
    · exact .refl s

/-- R39, R48: of what the inbox unit reads, a hearing changes the entry of the peer heard. -/
theorem hear_receiver (p : Station) (e : Epoch) (fresh : Bool) :
    ReceiverKeeps (s.setPeer p ((s.peer p).heard e fresh)) (s.hear p e fresh) := by
  have latched : ReceiverKeeps (s.setPeer p ((s.peer p).heard e fresh))
      (if (s.peer p).state = .present then s.setPeer p ((s.peer p).heard e fresh)
        else (s.setPeer p ((s.peer p).heard e fresh)).latchPeerChange) := by
    split
    · exact .refl _
    · exact setAttention_receiver ..
  unfold State.hear; dsimp only; split
  · exact latched.trans ((setQueues_receiver ..).trans (setAttention_receiver ..))
  · exact latched

end

/-! ### The hearing of the source -/

/-- The state with the entry of a frame's source as the hearing leaves it. -/
def State.sourceHeard (s : State) (f : Frame) : State :=
  s.setPeer f.src ((s.peer f.src).heard f.epoch f.body.freshStart)

theorem restartedBy_iff (e : PeerEntry) (epoch : Epoch) (fresh : Bool) :
    e.restartedBy epoch fresh = true ↔ fresh = true ∨ ∃ old, e.epoch = some old ∧ old ≠ epoch := by
  unfold PeerEntry.restartedBy
  cases e.epoch <;> simp

theorem heard_receive (e : PeerEntry) (epoch : Epoch) (fresh : Bool) (i : InboxIx) :
    (e.heard epoch fresh).receive[i] = if e.restartedBy epoch fresh then none else e.receive[i] := by
  unfold PeerEntry.heard; dsimp only; split
  · simp [PeerEntry.restart]
  · rfl

/-- R46 to R48: the receive pair records of the source, FRESH after a restart that the frame reveals. -/
theorem sourceHeard_receivePair (s : State) (f : Frame) (i : InboxIx) :
    (s.sourceHeard f).receivePair f.src i =
      if (s.peer f.src).restartedBy f.epoch f.body.freshStart then none else s.receivePair f.src i := by
  unfold State.sourceHeard State.receivePair
  rw [setPeer_peer, if_pos rfl, heard_receive]

/-! ### The frame's end where nothing of this station is under way -/

theorem arrival_exchanges (s : State) (f : Frame) (active : Bool) :
    (s.arrival f active).trunk.watch = s.trunk.watch ∧
      (s.arrival f active).trunk.transmission = s.trunk.transmission := by
  unfold State.arrival
  split
  · exact ⟨rfl, rfl⟩
  · split
    case h_1 payload =>
      unfold State.bcastArrives; split
      · exact ⟨rfl, rfl⟩
      · simp [State.dropBcast]
    case h_2 seq payload =>
      split
      · unfold State.dataArrives; split <;> exact ⟨rfl, rfl⟩
      · exact ⟨rfl, rfl⟩
    case h_3 => split <;> exact ⟨rfl, rfl⟩
    case h_4 word value =>
      split
      · unfold State.noticeArrives; dsimp only; split <;> exact ⟨rfl, rfl⟩
      · exact ⟨rfl, rfl⟩
    all_goals exact ⟨rfl, rfl⟩

theorem creditHeard_of_not_credit {s : State} {f : Frame} (hf : ∀ offer, f.body ≠ .credit offer)
    (own : Bool) : s.creditHeard f own = s := by
  unfold State.creditHeard; split
  · next offer h => exact absurd h (hf offer)
  · rfl

theorem judgeWatch_of_none {s : State} (h : s.trunk.watch = none) (f : Frame) : s.judgeWatch f = s := by
  unfold State.judgeWatch; rw [h]

theorem finding_of_none {s : State} (h : s.trunk.transmission = none) (valid : Bool) :
    s.finding valid = s := by
  unfold State.finding; rw [h]

theorem observe_other {s : State} {f : Frame} (hsrc : f.src ≠ s.own) :
    s.observe f false = s.hear f.src f.epoch f.body.freshStart := by
  unfold State.observe; rw [if_neg Bool.false_ne_true, if_neg hsrc]

/-- R14: a frame of another station, but a CREDIT, is heard and then goes to the inbox unit and the notice
words, and that is all. -/
theorem frameReported_other {s : State} {f : Frame} (hsrc : f.src ≠ s.own)
    (hcredit : ∀ offer, f.body ≠ .credit offer) (hwatch : s.trunk.watch = none)
    (htx : s.trunk.transmission = none) (active : Bool) :
    ∃ u, ReceiverKeeps (s.sourceHeard f) u ∧ s.frameReported f active false = u.arrival f active := by
  have claim := claimValid_receiver s f
  have keeps : ReceiverKeeps (s.sourceHeard f) ((s.claimValid f).hear f.src f.epoch f.body.freshStart) := by
    refine (claim.setPeer f.src _).trans ?_
    rw [← claim.peer f.src]
    exact hear_receiver ..
  refine ⟨_, keeps, ?_⟩
  obtain ⟨arrivalWatch, arrivalTx⟩ :=
    arrival_exchanges ((s.claimValid f).hear f.src f.epoch f.body.freshStart) f active
  unfold State.frameReported
  rw [observe_other (by rwa [claim.own])]
  dsimp only
  rw [if_neg Bool.false_ne_true, creditHeard_of_not_credit hcredit,
    judgeWatch_of_none (arrivalWatch.trans (keeps.watch.trans hwatch)),
    finding_of_none (arrivalTx.trans (keeps.transmission.trans htx))]

theorem exec_validFrameEnd (line : List Character) (s : State) :
    exec (.validFrameEnd line) s = execValidFrameEnd line s := rfl

/-- R12: VALID_FRAME_END with the characters of a valid frame is the end of that frame. -/
theorem exec_validFrameEnd_judged {line : List Character} {f : Frame} {s : State}
    (hj : judge line = some f) (hend : s.canEnd) :
    exec (.validFrameEnd line) s =
      .next (s.activityBegins.validEnds f (assemble line).octets) := by
  obtain ⟨hstuck, hseen⟩ := hend
  have seen : s.activityBegins.trunk.unseenStart = false := by
    unfold State.activityBegins; split <;> exact hseen
  have ends : s.activityBegins.activityEnds line =
      s.activityBegins.validEnds f (assemble line).octets := by
    unfold State.activityEnds; rw [seen, if_neg Bool.false_ne_true, hj]
  rw [← ends, exec_validFrameEnd]
  unfold execValidFrameEnd
  cases h : s.trunk.line with
  | stuck => exact absurd h hstuck
  | idle | activeRx | activeTx => rfl

theorem activityBegins_trunkState (s : State) : s.activityBegins.claim.state = s.claim.state := by
  unfold State.activityBegins; split <;> rfl

/-- R14: the end of a valid frame of another station, but a CREDIT, at a configured station that neither sends
nor waits for a reply: the frame goes to the inbox unit and the notice words once its source is heard. -/
theorem exec_validFrameEnd_other {line : List Character} {f : Frame} {s : State}
    (hj : judge line = some f) (hsrc : f.src ≠ s.own) (hcredit : ∀ offer, f.body ≠ .credit offer)
    (hend : s.canEnd) (hun : s.uninvolved) (hset : s.settings.isSome = true) :
    ∃ u, ReceiverKeeps (s.sourceHeard f) u ∧
      exec (.validFrameEnd line) s = .next (u.arrival f (decide (s.claim.state = .active))) := by
  obtain ⟨htx, hwatch, -⟩ := hun
  have begun := activityBegins_receiver s
  have ended : ReceiverKeeps s (s.activityBegins.keepOctets (assemble line).octets).lineEnds :=
    (begun.trans (keepOctets_receiver ..)).trans (lineEnds_receiver _)
  obtain ⟨u, keeps, reported⟩ := frameReported_other (by rwa [ended.own]) hcredit
    (ended.watch.trans hwatch) (ended.transmission.trans htx) (decide (s.claim.state = .active))
  have notOwn : s.activityBegins.ownFrame = false := by
    unfold State.ownFrame; rw [begun.transmission, htx]
  have isConfigured :
      (s.activityBegins.keepOctets (assemble line).octets).lineEnds.configured = true :=
    ended.configured.trans hset
  refine ⟨u, ?_, ?_⟩
  · refine ReceiverKeeps.trans ?_ keeps
    unfold State.sourceHeard
    rw [ended.peer]
    exact ended.setPeer ..
  · rw [exec_validFrameEnd_judged hj hend]
    unfold State.validEnds
    rw [activityBegins_trunkState, notOwn, if_pos isConfigured, reported]

/-! ### STEP (R116) -/

theorem arrival_step {s : State} {f : Frame} (hb : f.body = .step) (hdst : f.dst = some s.own)
    (hsrc : f.src ≠ s.own) : s.arrival f true = s.compose (s.inboxReply f.src f.ch .stepState) := by
  unfold State.arrival
  rw [if_neg hsrc, hb]
  simp [hdst, State.stepArrives]

/-- R115: a REPLY of the inbox unit carries the receive pair record and the offered count. -/
theorem inboxReply_eq_replyTo (s : State) (p : Station) (i : InboxIx) (code : ReplyCode) :
    s.inboxReply p i code = s.replyTo p i code.toOctet ((s.receivePair p i).getD 0)
      (s.receivePair p i).isNone (s.inbox i).offer := rfl

theorem ReceiverKeeps.replyTo {s t : State} (h : ReceiverKeeps s t) (p : Station) (i : InboxIx)
    (code : Octet) (last : Seq) (fresh : Bool) (offer : Offer) :
    t.replyTo p i code last fresh offer = s.replyTo p i code last fresh offer := by
  simp only [State.replyTo, h.own, h.epoch]

/-- Settles O38: the frame's end is the hearing of the source, which makes the record FRESH where the epoch
differs, and then the inbox unit's answer, which only composes the REPLY. -/
theorem stepQueriesAreAnsweredFromTheRecord : Obligations.StepQueriesAreAnsweredFromTheRecord := by
  unfold Obligations.StepQueriesAreAnsweredFromTheRecord
  intro line f s hj hb hdst hsrc hend hun hset hact record
  obtain ⟨u, heard, hexec⟩ := exec_validFrameEnd_other hj hsrc (by simp [hb]) hend hun hset
  have hown : u.own = s.own := heard.own
  rw [decide_eq_true hact, arrival_step hb (by rw [hown, hdst]) (by rwa [hown])] at hexec
  have hrecord : u.receivePair f.src f.ch = record := by
    rw [heard.receivePair, sourceHeard_receivePair]
    simp only [restartedBy_iff, hb, FrameBody.freshStart, Bool.false_eq_true, false_or, record]
  have answered := compose_receiver u (u.inboxReply f.src f.ch .stepState)
  have kept := heard.trans answered
  refine ⟨_, hexec, ?_, kept.inboxes, kept.memory, kept.words, kept.counters, ?_⟩
  · rw [compose_reply, inboxReply_eq_replyTo, hrecord, heard.inbox, heard.replyTo]
    rfl
  · rw [answered.receivePair, hrecord]

end Sys2Proof.Machine
end

section
/-!
PROOFS. The notice words at the end of a NOTICE (chapter 8): one equation for each outcome of Table 8-1, carried
from the hearing of the source to the frame's end.
-/

namespace Sys2Proof.Machine

/-! ### What the notice words decide from -/

/-- R136: an open word admits every writer, a restricted one its own writer, a closed one none. -/
theorem admits_iff (a : Access) (p : Station) :
    a.admits p = true ↔ a = .opened ∨ a = .restricted p := by
  cases a with
  | closed | opened => simp [Access.admits]
  | restricted q => simp [Access.admits, eq_comm]

namespace ReceiverKeeps

variable {s t : State}

theorem word (h : ReceiverKeeps s t) (w : WordIx) : t.word w = s.word w := by
  simp only [State.word, h.words]

theorem access (h : ReceiverKeeps s t) (w : WordIx) : t.access w = s.access w := by
  simp only [State.access, h.settings]

end ReceiverKeeps

@[simp] theorem sourceHeard_word (s : State) (f : Frame) (w : WordIx) :
    (s.sourceHeard f).word w = s.word w := rfl

@[simp] theorem sourceHeard_access (s : State) (f : Frame) (w : WordIx) :
    (s.sourceHeard f).access w = s.access w := rfl

@[simp] theorem sourceHeard_replyTo (s : State) (f : Frame) (p : Station) (i : InboxIx) (code : Octet)
    (last : Seq) (fresh : Bool) (offer : Offer) :
    (s.sourceHeard f).replyTo p i code last fresh offer = s.replyTo p i code last fresh offer := rfl

@[simp] theorem compose_word (s : State) (f : Frame) (w : WordIx) : (s.compose f).word w = s.word w := rfl

/-! ### The rows of Table 8-1 -/

/-- R139: a REPLY of the notice words carries no pair record: CH, LAST, FRESH and OFFER are 0. -/
theorem noticeReply_eq_replyTo (s : State) (p : Station) (code : ReplyCode) :
    s.noticeReply p code = s.replyTo p 0 code.toOctet 0 false 0 := rfl

theorem arrival_notice {s : State} {f : Frame} {w : WordIx} {v : Value} (hb : f.body = .notice w v)
    (hdst : f.dst = some s.own) (hsrc : f.src ≠ s.own) :
    s.arrival f true = s.noticeArrives f.src w v := by
  unfold State.arrival
  rw [if_neg hsrc, hb]
  simp [hdst]

section
variable {s : State} {p : Station} {w : WordIx} (v : Value)

/-- R138, first row: a word that does not admit the writer is left alone. -/
theorem noticeArrives_closed (h : ¬ (s.access w).admits p = true) :
    s.noticeArrives p w v = s.compose (s.replyTo p 0 10 0 false 0) := by
  have code : s.noticeCode p w = .noticeClosed := by simp [State.noticeCode, h]
  unfold State.noticeArrives
  rw [code]
  rfl

/-- R138, the rows of an admitting word: the value is written, and the unread flag that it had is what the
REPLY tells. -/
theorem noticeArrives_admitted (h : (s.access w).admits p = true) :
    s.noticeArrives p w v = (s.setWord w { value := v, writer := some p, unread := true }).compose
      (s.replyTo p 0 (if (s.word w).unread then 9 else 8) 0 false 0) := by
  unfold State.noticeArrives
  cases unread : (s.word w).unread with
  | true =>
    have code : s.noticeCode p w = .noticeOverwrote := by simp [State.noticeCode, h, unread]
    rw [code]
    rfl
  | false =>
    have code : s.noticeCode p w = .noticeTaken := by simp [State.noticeCode, h, unread]
    rw [code]
    rfl

end

/-! ### NOTICE (R138) -/

/-- R138: a NOTICE touches no word but its own, no inbox and no packet memory. -/
theorem noticeArrives_frame (s : State) (p : Station) (w : WordIx) (v : Value) :
    (∀ u, u ≠ w → (s.noticeArrives p w v).word u = s.word u) ∧
      (s.noticeArrives p w v).inboxes = s.inboxes ∧ (s.noticeArrives p w v).memory = s.memory := by
  by_cases admitted : (s.access w).admits p = true
  · rw [noticeArrives_admitted v admitted]
    refine ⟨fun u hu => ?_, rfl, rfl⟩
    rw [compose_word, setWord_word, if_neg hu.symm]
  · rw [noticeArrives_closed v admitted]
    exact ⟨fun _ _ => rfl, rfl, rfl⟩

/-- Settles O40: the frame's end is the hearing of the source, which leaves the words and their access settings
as they are, and then the decision of Table 8-1 on the word. -/
theorem noticesAreDecidedByTable : Obligations.NoticesAreDecidedByTable := by
  unfold Obligations.NoticesAreDecidedByTable
  intro line f w v s hj hb hdst hsrc hend hun hset hact admits
  obtain ⟨u, heard, hexec⟩ := exec_validFrameEnd_other hj hsrc (by simp [hb]) hend hun hset
  have hown : u.own = s.own := heard.own
  rw [decide_eq_true hact, arrival_notice hb (by rw [hown, hdst]) (by rwa [hown])] at hexec
  have hword (x : WordIx) : u.word x = s.word x := by rw [heard.word, sourceHeard_word]
  have hadmits : (u.access w).admits f.src = true ↔ admits := by
    rw [heard.access, sourceHeard_access, admits_iff]
  obtain ⟨otherWords, inboxes, memory⟩ := noticeArrives_frame u f.src w v
  refine ⟨_, hexec, fun x hx => (otherWords x hx).trans (hword x), inboxes.trans heard.inboxes,
    memory.trans heard.memory, fun closed => ?_, fun admitted => ?_⟩
  · rw [noticeArrives_closed v (mt hadmits.mp closed), compose_word, compose_reply, heard.replyTo,
      sourceHeard_replyTo]
    exact ⟨hword w, rfl⟩
  · rw [noticeArrives_admitted v (hadmits.mpr admitted), compose_word, setWord_word, if_pos rfl,
      compose_reply, heard.replyTo, sourceHeard_replyTo, hword]
    exact ⟨rfl, fun unread => by rw [unread]; rfl, fun unread => by rw [unread]; rfl⟩

end Sys2Proof.Machine
end

section
/-!
PROOFS. The event flags and ATTN (Table 9-1, R151 to R155): flag n is bit n of the flag word, ATTN is asserted
exactly when an enabled bit stands in it, and EVENTS_READ reports the flag word octet by octet.
-/

namespace Sys2Proof.Machine

/-! ### Numbers and their bits -/

theorem testBit_bitsToNat (l : List Bool) (n : Nat) : (bitsToNat l).testBit n = l.getD n false := by
  induction l generalizing n with
  | nil => simp [bitsToNat]
  | cons b rest ih =>
    have pushed : bitsToNat (b :: rest) = Nat.bit b (bitsToNat rest) := by
      cases b <;> simp [bitsToNat, bit, Nat.bit, Nat.add_comm]
    rw [pushed]
    cases n with
    | zero => rw [Nat.testBit_bit_zero, List.getD_cons_zero]
    | succ n => rw [Nat.testBit_bit_succ, ih, List.getD_cons_succ]

/-- R169: bit n of a number sent low octet first is bit n mod 8 of its octet n / 8. -/
theorem octetsOf_getLsbD {count n : Nat} (v : Nat) (hn : n < 8 * count) :
    ((octetsOf count v).getD (n / 8) 0).getLsbD (n % 8) = v.testBit n := by
  induction count generalizing n v with
  | zero => omega
  | succ count ih =>
    rw [octetsOf]
    by_cases first : n < 8
    · rw [Nat.div_eq_of_lt first, Nat.mod_eq_of_lt first, List.getD_cons_zero, octet,
        BitVec.getLsbD_ofNat, decide_eq_true first, Bool.true_and]
    · obtain ⟨m, rfl⟩ : ∃ m, n = m + 8 := ⟨n - 8, by omega⟩
      have shifted : (v / 256).testBit m = v.testBit (m + 8) := Nat.testBit_div_two_pow (n := 8) v m
      rw [Nat.add_div_right m (by omega), Nat.add_mod_right, List.getD_cons_succ, ih _ (by omega), shifted]

section
variable (s : State)

/-! ### The flags by their numbers (Table 9-1) -/

theorem arrivalFlag_iff (i : InboxIx) : s.arrivalFlag i = true ↔ (s.inbox i).arrivals ≠ [] := by
  simp [State.arrivalFlag]

theorem logFlag_iff : s.logFlag = true ↔ s.log ≠ [] := by
  simp [State.logFlag]

theorem eventFlag_arrival (i : InboxIx) : s.eventFlag i.val = s.arrivalFlag i := by
  fin_cases i <;> rfl

theorem eventFlag_notice (w : WordIx) : s.eventFlag (8 + w.val) = (s.word w).unread := by
  fin_cases w <;> rfl

theorem eventFlag_queueIdle (q : QueueIx) : s.eventFlag (15 + q.val) = s.attention.queueIdle[q] := by
  fin_cases q <;> rfl

/-- There is no flag beyond number 20. -/
theorem eventFlag_beyond {n : Nat} (hn : 21 ≤ n) : s.eventFlag n = false :=
  List.getD_eq_default _ _ hn

/-! ### The flag word and ATTN -/

theorem flagWord_getLsbD (n : Nat) : s.flagWord.getLsbD n = s.eventFlag n := by
  rw [State.flagWord, BitVec.getLsbD_ofNat, testBit_bitsToNat]
  change (decide (n < 21) && s.eventFlag n) = s.eventFlag n
  by_cases hn : n < 21
  · rw [decide_eq_true hn, Bool.true_and]
  · rw [eventFlag_beyond s (by omega), Bool.and_false]

theorem and_ne_zero_iff {w : Nat} (x y : BitVec w) :
    x &&& y ≠ 0 ↔ ∃ n, n < w ∧ x.getLsbD n = true ∧ y.getLsbD n = true := by
  simp [BitVec.eq_of_getLsbD_eq_iff]

/-- R155. -/
theorem attn_iff : s.attn = true ↔
    s.rst = .high ∧ ∃ n, n < 21 ∧ s.eventFlag n = true ∧ s.attention.mask.getLsbD n = true := by
  simp only [← flagWord_getLsbD, ← and_ne_zero_iff]
  simp [State.attn]

/-! ### EVENTS_READ (R153) -/

theorem exec_eventsRead {s : State} (hl : s.listens) (hs : s.settings.isSome = true) :
    exec .eventsRead s = .next (s.answered 0x00 s.eventsData) :=
  exec_performed hl rfl rfl (.inr hs)

/-- Table 11-4: three octets of flags, three of the mask, one of ATTN. -/
theorem eventsData_length : s.eventsData.length = 7 := by
  simp [State.eventsData, octetsOf_length]

theorem eventsData_flags {n : Nat} (hn : n < 24) :
    (s.eventsData.getD (n / 8) 0).getLsbD (n % 8) = s.eventFlag n := by
  have inFlags : n / 8 < (octetsOf 3 s.flagWord.toNat).length := by rw [octetsOf_length]; omega
  rw [State.eventsData, List.append_assoc, List.getD_append _ _ _ _ inFlags, octetsOf_getLsbD _ hn,
    BitVec.testBit_toNat, flagWord_getLsbD]

theorem eventsData_mask {n : Nat} (hn : n < 24) :
    (s.eventsData.getD (3 + n / 8) 0).getLsbD (n % 8) = s.attention.mask.getLsbD n := by
  have inMask : n / 8 < (octetsOf 3 s.attention.mask.toNat).length := by rw [octetsOf_length]; omega
  rw [State.eventsData, List.append_assoc, List.getD_append_right _ _ _ _ (by simp [octetsOf_length]),
    octetsOf_length, Nat.add_sub_cancel_left, List.getD_append _ _ _ _ inMask, octetsOf_getLsbD _ hn,
    BitVec.testBit_toNat]

theorem eventsData_attn : s.eventsData.getD 6 0 = if s.attn then 1 else 0 := by
  have last : s.eventsData.getD 6 0 = octet (bit s.attn) := rfl
  rw [last]
  cases s.attn <;> rfl

end

/-- Settles O55: flag by flag from Table 9-1; ATTN and the octets of EVENTS_READ through the flag word, whose
bit n is flag n. -/
theorem eventFlagsAndAttnFollowTheState : Obligations.EventFlagsAndAttnFollowTheState := by
  unfold Obligations.EventFlagsAndAttnFollowTheState
  intro s
  refine ⟨fun i => ?_, eventFlag_notice s, logFlag_iff s, rfl, rfl, eventFlag_queueIdle s, rfl, rfl,
    attn_iff s, fun hl hs => ?_⟩
  · rw [eventFlag_arrival, arrivalFlag_iff]
  · exact ⟨s.eventsData, exec_eventsRead hl hs, eventsData_length s, fun _ => eventsData_flags s,
      fun _ => eventsData_mask s, eventsData_attn s⟩

end Sys2Proof.Machine
end

section
/-!
PROOFS. IDENT (R177): the command is one of those taken in every state, and the six octets that it reports are
those of Table 11-4.
-/

namespace Sys2Proof.Machine

/-- R174, item 1: no CONFIGURE need have been taken. -/
theorem exec_ident {s : State} (h : s.listens) :
    exec .ident s = .next (s.answered 0x00 s.identData) :=
  exec_performed h rfl rfl (.inl rfl)

/-- Table 11-4: the part code low octet first, the revision code, the straps and the trunk state. -/
theorem identData_octets (s : State) : s.identData =
    [0x16, 0x24, 0x01, octet s.straps.address.val, octet s.straps.rate.val, octet s.claim.state.code] :=
  rfl

/-- Settles O14: the answer of IDENT's own rule, octet by octet, in each of the five trunk states. -/
theorem identReportsStrapsAndTrunkState : Obligations.IdentReportsStrapsAndTrunkState := by
  unfold Obligations.IdentReportsStrapsAndTrunkState
  intro s listening
  rw [exec_ident listening, identData_octets]
  cases s.claim.state <;> rfl

end Sys2Proof.Machine
end

section
/-!
PROOFS. What a step can do (R18 to R180). `Work` lists the units of work that a command or a bit time is made of,
each with the guard under which the model does it; `step_works` says that every step is a chain of them. An
invariant of the part is then one case analysis over `Work`.
-/

namespace Sys2Proof.Machine

/-! ### The guards of the units of work -/

/-- The step of context `c` goes on as `c'`: the message, the destination and the lock are the same, and only
counts, timers and the SEQ sent have moved. -/
structure Context.Continues (c c' : Context) : Prop where
  head : c'.head = c.head
  copy : c'.copy = c.copy
  destinations : c'.destinations = c.destinations
  current : c'.current = c.current
  outcomes : c'.outcomes = c.outcomes
  outcome : c'.outcome = c.outcome
  lock : c'.lock = c.lock
  within : c.within → c'.within

/-- The queue delivers the message of context `c`, which has not settled. -/
def QueueState.delivers (st : QueueState) (c : Context) : Prop :=
  st = .running c ∨ st = .held c ∨ (st = .stopping c ∧ c.outcome = none)

/-- What commands and arriving frames do to one inbox (chapter 6, R130 to R133). -/
inductive InboxWork (x : Inbox) : Inbox → Prop
  | post (b : Buffer) (room : x.free.length < 32) (inside : b.inside) : InboxWork x (x.post b)
  | take : InboxWork x x.take
  | accept (a : Arrival) (room : x.offered ≠ 0) : InboxWork x (x.accept a)
  | wait (p : Station) (full : x.offered = 0) :
    InboxWork x { x with waiters := addStation x.waiters p }
  | drops (n : Nat) (limit : n ≤ 65535) : InboxWork x { x with drops := n }
  | announced : InboxWork x { x with waiters := 0, announce := false }

/-- R163 to R165: what the line found stuck does before the exchanges under way end. -/
def State.enterStuck (s : State) : State :=
  if s.configured then
    (((s.setLine .stuck).latchLineStuck.setClaim
      { s.claim with leaveDeferred := false }).enterListening).discardReply
  else s.setLine .stuck

/-! ### The units of work -/

/-- One unit of work of a step. -/
inductive Work (s : State) : State → Prop
  | pending (l : List Instr) : Work s (s.setPending l)
  | port (p : HostPort) : Work s (s.setPort p)
  | attention (x : Attention) : Work s (s.setAttention x)
  | word (w : WordIx) (x : NoticeWord) : Work s (s.setWord w x)
  | memory (a : Nat) (l : List Octet) : Work s (s.setMemory (s.memory.writeOctets a l))
  | inbox (i : InboxIx) (x : Inbox) (h : InboxWork (s.inbox i) x) : Work s (s.setInbox i x)
  | counters (x : Counters) (invalid : x.invalid ≤ 65535 ∨ x.invalid = s.counters.invalid)
    (collisions : x.collisions ≤ 65535 ∨ x.collisions = s.counters.collisions)
    (noReply : x.noReply ≤ 65535 ∨ x.noReply = s.counters.noReply)
    (drops : x.drops ≤ 65535 ∨ x.drops = s.counters.drops) : Work s (s.setCounters x)
  -- the trunk interface and the claim unit
  | exchange (x : TrunkInterface) (line : x.line = s.trunk.line)
    (received : x.received = s.trunk.received) : Work s (s.setTrunk x)
  | keepOctets (l : List Octet) : Work s (s.keepOctets l)
  | begins (l : LineState) (idle : s.trunk.line = .idle) (busy : l ≠ .idle) : Work s (s.beginActivity l)
  | mismatch (t : Transmission) (h : s.trunk.line = .activeTx) : Work s (s.mismatchFound t)
  | lineEnds : Work s s.lineEnds
  | stuck (h : s.trunk.line ≠ .idle) : Work s s.enterStuck
  | claim (x : ClaimUnit) (state : x.state = s.claim.state) (join : x.joinCount = s.claim.joinCount)
    (quiet : x.quietTimer = s.claim.quietTimer) (leave : x.leaveDeferred = s.claim.leaveDeferred)
    (count : x.collisionCount ≤ 8 ∨ x.collisionCount = s.claim.collisionCount) : Work s (s.setClaim x)
  | joinCount (h : s.claim.state = .listening) :
    Work s (s.setClaim { s.claim with joinCount := s.startedJoinCount })
  | listening (h : s.claim.state = .quiet ∨ s.claim.state = .offline) : Work s s.enterListening
  | active (h : s.claim.state = .listening) : Work s s.enterActive
  | quiet (h : s.claim.state = .active) : Work s s.enterQuiet
  | offline (h : s.claim.state.onTrunk = true) : Work s s.enterOffline
  | deferLeave (h : s.claim.state.onTrunk = true) (line : s.trunk.line = .activeTx) :
    Work s (s.setClaim { s.claim with leaveDeferred := true })
  -- the peer table
  | hear (p : Station) (e : Epoch) (fresh : Bool) : Work s (s.hear p e fresh)
  | receive (p : Station) (i : InboxIx) (r : Option Seq) : Work s (s.setReceivePair p i r)
  | hint (p : Station) (i : InboxIx) (x : Option Offer) : Work s (s.setHint p i x)
  | record (p : Station) (i : InboxIx) (r : SendPair) (lock : r.lock = (s.sendPair p i).lock)
    (blind : (s.sendPair p i).blind ≤ 3 → r.blind ≤ 3) : Work s (s.setSendPair p i r)
  | silence (p : Station) : Work s (s.silenceExpired p)
  | presence (timer : Option Nat) (due : Bool) :
    Work s (s.setPeers { s.peers with presenceTimer := timer, presenceDue := due })
  -- the send engine
  | goOn (q : QueueIx) (c c' : Context) (h : s.queue q = .running c ∨ s.queue q = .held c)
    (k : c.Continues c') : Work s (s.setQueue q (.running c'))
  | hold (q : QueueIx) (c c' : Context) (h : s.queue q = .running c) (k : c.Continues c') :
    Work s (s.setQueue q (.held c'))
  | stopGoesOn (q : QueueIx) (c c' : Context) (h : s.queue q = .stopping c) (unsettled : c.outcome = none)
    (k : c.Continues c') : Work s (s.setQueue q (.stopping c'))
  | stop (q : QueueIx) (c : Context)
    (h : s.queue q = .running c ∨ s.queue q = .held c ∨ s.queue q = .blockedLog c) :
    Work s (s.setQueue q (.stopping c))
  | stopWaiting (q : QueueIx) (h : (s.queue q).isWaiting = true) : Work s (s.setQueue q .stopped)
  | endStep (q : QueueIx) (c c' : Context) (stopping : Bool) (o : Outcome) (h : (s.queue q).delivers c)
    (k : c.Continues c') : Work s (s.endStep q c' stopping o)
  | arrive (q : QueueIx) (d : DescIx) (fuel : Nat) (h : (s.queue q).context = none) :
    Work s (s.arrive q d fuel)
  | followLink (q : QueueIx) (d : DescIx) (h : (s.queue q).context = none) : Work s (s.followLink q d)
  | takeRecord (r : CompletionRecord) (rest : List CompletionRecord) (h : s.log = r :: rest) :
    Work s (s.setLog rest).serveLog
  -- descriptors and lists
  | fill (d : DescIx) (h : HostFields) (arm : Bool) (free : (s.desc d).armed = false) :
    Work s (s.setDesc d { host := h, armed := arm, holder := none, outcome := none, attempts := 0,
                          late := 0, perDest := none })
  | disarm (d : DescIx) (free : (s.desc d).holder = none) :
    Work s (s.setDesc d { s.desc d with armed := false })
  | list (n : ListIx) (l : List Station) (h : l.length ≤ 8) : Work s (s.setFanout n l)
  -- the whole part
  | advance : Work s s.advance
  | configure (c : Settings) (h : s.settings = none) : Work s (s.configure c)
  | softReset (x : Straps) (l : LineLevel) : Work s (s.softReset x l)
  | hardReset (x : Straps) (l : LineLevel) (sel rst : PinLevel) : Work s (s.hardReset x l sel rst)

/-- A chain of units of work. -/
def Works : State → State → Prop := Relation.ReflTransGen Work

namespace Works

theorem refl (s : State) : Works s s := Relation.ReflTransGen.refl

theorem trans {s t u : State} (h : Works s t) (k : Works t u) : Works s u := Relation.ReflTransGen.trans h k

theorem of {s t : State} (h : Work s t) : Works s t := .single h

/-- What every unit of work keeps, a chain keeps. -/
theorem keeps {P : State → Prop} (h : ∀ s t, Work s t → P s → P t) {s t : State} (k : Works s t)
    (hs : P s) : P t := by
  induction k with
  | refl => exact hs
  | tail _ last ih => exact h _ _ last ih

end Works

variable (s : State)

/-! ### Counters, latches and the small updates of the trunk interface -/

theorem countInvalid_works : Works s s.countInvalid := by
  unfold State.countInvalid; split
  · exact .of (.counters _ (.inl (Nat.min_le_left ..)) (.inr rfl) (.inr rfl) (.inr rfl))
  · exact .refl s

theorem countCollision_works : Works s s.countCollision := by
  unfold State.countCollision; split
  · exact .of (.counters _ (.inr rfl) (.inl (Nat.min_le_left ..)) (.inr rfl) (.inr rfl))
  · exact .refl s

theorem countNoReply_works : Works s s.countNoReply := by
  unfold State.countNoReply; split
  · exact .of (.counters _ (.inr rfl) (.inr rfl) (.inl (Nat.min_le_left ..)) (.inr rfl))
  · exact .refl s

theorem countDrop_works : Works s s.countDrop := by
  unfold State.countDrop; split
  · exact .of (.counters _ (.inr rfl) (.inr rfl) (.inr rfl) (.inl (Nat.min_le_left ..)))
  · exact .refl s

theorem compose_works (f : Frame) : Works s (s.compose f) := .of (.exchange _ rfl rfl)

theorem discardReply_works : Works s s.discardReply := .of (.exchange _ rfl rfl)

/-! ### The frames and results of a step under way -/

section
variable {s : State} {q : QueueIx} {c : Context} {stopping : Bool}

theorem inFlight_some (h : (s.queue q).inFlight = some (c, stopping)) :
    s.queue q = (if stopping then .stopping c else .running c) ∧ (stopping = true → c.outcome = none) := by
  unfold QueueState.inFlight at h
  split at h
  · next heq => obtain ⟨rfl, rfl⟩ := Prod.mk.inj (Option.some.inj h); exact ⟨heq, nofun⟩
  · next heq =>
    split at h
    · cases h
    · next ho =>
      obtain ⟨rfl, rfl⟩ := Prod.mk.inj (Option.some.inj h)
      exact ⟨heq, fun _ => by simpa using ho⟩
  all_goals cases h

theorem inFlight_delivers (h : (s.queue q).inFlight = some (c, stopping)) : (s.queue q).delivers c := by
  obtain ⟨hq, ho⟩ := inFlight_some h
  cases stopping with
  | false => exact .inl hq
  | true => exact .inr (.inr ⟨hq, ho rfl⟩)

/-- The context of a step under way moves on, its queue staying as it is. -/
theorem goesOn_works (h : (s.queue q).inFlight = some (c, stopping)) {c' : Context} (k : c.Continues c') :
    Works s (s.setQueue q (if stopping then .stopping c' else .running c')) := by
  obtain ⟨hq, ho⟩ := inFlight_some h
  cases stopping with
  | false => exact .of (.goOn q c c' (.inl hq) k)
  | true => exact .of (.stopGoesOn q c c' hq (ho rfl) k)

/-- R81: the step of a running queue goes on, or waits for credit. -/
theorem continueStep_works (h : s.queue q = .running c) {c' : Context} (k : c.Continues c') :
    Works s (s.continueStep q c') := by
  have held (x : Option Nat) : c.Continues { c' with hold := x } := by cases k; constructor <;> assumption
  unfold State.continueStep State.readHint
  split
  · split
    · exact .of (.hold q c _ h (held _))
    · exact .of (.goOn q c c' (.inl h) k)
  · exact .of (.goOn q c c' (.inl h) k)

end

theorem frameNotSent_works (q : QueueIx) : Works s (s.frameNotSent q) := by
  unfold State.frameNotSent; split
  · next c h => exact goesOn_works h (stopping := false) ⟨rfl, rfl, rfl, rfl, rfl, rfl, rfl, id⟩
  · next c h =>
    exact .of (.endStep q c c true .stopped (inFlight_delivers h) ⟨rfl, rfl, rfl, rfl, rfl, rfl, rfl, id⟩)
  · exact .refl s

theorem frameSentClean_works (q : QueueIx) (f : QueueFrame) : Works s (s.frameSentClean q f) := by
  unfold State.frameSentClean; split
  · next c stopping h =>
    have attempt : c.Continues { c with stepAttempts := c.stepAttempts + 1, attempts := satAdd attemptLimit c.attempts 1 } :=
      ⟨rfl, rfl, rfl, rfl, rfl, rfl, rfl, fun w => ⟨Nat.min_le_left .., w.2⟩⟩
    split
    · exact .of (.endStep q c _ stopping .sent (inFlight_delivers h)
        ⟨rfl, rfl, rfl, rfl, rfl, rfl, rfl, fun w => ⟨Nat.le_add_left 1 254, w.2⟩⟩)
    all_goals
      dsimp only
      split
      · exact (goesOn_works h attempt).trans (.of (.exchange _ rfl rfl))
      · exact goesOn_works h attempt
  · exact .refl s

/-! ### Results of the reply watch -/

theorem reanchor_works (c : Context) (p : Station) (i : InboxIx) (f : ReplyFields) :
    Works s (s.reanchor c p i f).1 :=
  .of (.record p i ((s.sendPair p i).reanchored f) rfl fun _ => Nat.zero_le 3)

theorem reanchored_continues (c : Context) (p : Station) (i : InboxIx) (f : ReplyFields) :
    c.Continues (s.reanchor c p i f).2 :=
  ⟨rfl, rfl, rfl, rfl, rfl, rfl, rfl, fun w => ⟨w.1, Nat.min_le_left .., w.2.2⟩⟩

/-- The attempts of a step are no part of what continues. -/
theorem Context.Continues.afresh {c c' : Context} (k : c.Continues c') :
    c.Continues { c' with stepAttempts := 0 } := by
  cases k; constructor <;> assumption

section
variable {s : State} {q : QueueIx} {c : Context} {stopping : Bool}
  (h : (s.queue q).inFlight = some (c, stopping)) (p : Station) (i : InboxIx) (f : ReplyFields)
include h

theorem dataDelivered_works : Works s (s.dataDelivered q c stopping p i f) := by
  have recorded : Works s (s.setSendPair p i
      { s.sendPair p i with anchor := c.seqSent.getD (s.sendPair p i).anchor, blind := 0 }) :=
    .of (.record p i _ rfl fun _ => Nat.zero_le 3)
  exact (recorded.trans (.of (.hint p i (some f.offer)))).trans
    (.of (.endStep q c _ stopping .delivered (inFlight_delivers h)
      ⟨rfl, rfl, rfl, rfl, rfl, rfl, rfl, fun w => ⟨w.1, Nat.min_le_left .., w.2.2⟩⟩))

theorem dataOutOfStep_works : Works s (s.dataOutOfStep q c stopping p i f) := by
  have k := reanchored_continues s c p i f
  have hinted := (reanchor_works s c p i f).trans (.of (.hint p i (some f.offer)))
  unfold State.dataOutOfStep; dsimp only
  split
  · exact hinted.trans (.of (.endStep q c _ true .stopped (inFlight_delivers h) k))
  · next hs =>
    rw [Bool.not_eq_true] at hs; subst hs
    exact hinted.trans (continueStep_works (by exact (inFlight_some h).1) k.afresh)

theorem dataFull_works : Works s (s.dataFull q c stopping p i f) := by
  have k := reanchored_continues s c p i f
  have counted (x : Option Nat) : c.Continues { (s.reanchor c p i f).2 with
      stepAttempts := 0, fullCount := satAdd attemptLimit c.fullCount 1, hold := x } :=
    ⟨rfl, rfl, rfl, rfl, rfl, rfl, rfl, fun w =>
      ⟨(k.within w).1, (k.within w).2.1, Nat.min_le_left .., w.2.2.2⟩⟩
  have hinted := (reanchor_works s c p i f).trans (.of (.hint p i (some f.offer)))
  unfold State.dataFull; dsimp only
  split
  · exact hinted.trans (.of (.endStep q c _ true .stopped (inFlight_delivers h) k))
  · next hs =>
    rw [Bool.not_eq_true] at hs; subst hs
    split
    · exact hinted.trans (.of (.endStep q c _ false .refusedFull (inFlight_delivers h) (counted c.hold)))
    · exact hinted.trans (.of (.hold q c _ (inFlight_some h).1 (counted _)))

theorem dataRefused_works (o : Outcome) : Works s (s.dataRefused q c stopping p i f o) :=
  ((reanchor_works s c p i f).trans (.of (.hint p i (some f.offer)))).trans
    (.of (.endStep q c _ stopping o (inFlight_delivers h) (reanchored_continues s c p i f)))

theorem stepState_works : Works s (s.stepState q c stopping p i f) := by
  have k := reanchored_continues s c p i f
  have moved := reanchor_works s c p i f
  unfold State.stepState; dsimp only
  split
  · exact moved.trans (.of (.endStep q c _ true .stopped (inFlight_delivers h) k))
  · next hs =>
    rw [Bool.not_eq_true] at hs; subst hs
    exact moved.trans (continueStep_works (by exact (inFlight_some h).1) k.afresh)

omit p i f in
theorem noReply_works (g : QueueFrame) : Works s (s.noReply q c stopping g) := by
  have k : c.Continues { c with unconfirmed := c.unconfirmed || g == .data, seqSent := none } :=
    ⟨rfl, rfl, rfl, rfl, rfl, rfl, rfl, id⟩
  unfold State.noReply; dsimp only
  split
  · exact .of (.endStep q c _ stopping .noReply (inFlight_delivers h) k)
  · split
    · exact .of (.endStep q c _ true .stopped (inFlight_delivers h) k)
    · next hs =>
      rw [Bool.not_eq_true] at hs; subst hs
      exact continueStep_works (c := c) (inFlight_some h).1 k

omit p i in
theorem replyTaken_works (code : ReplyCode) : Works s (s.replyTaken q c stopping code f) := by
  have decided (o : Outcome) : Works s (s.endStep q c stopping o) :=
    .of (.endStep q c c stopping o (inFlight_delivers h) ⟨rfl, rfl, rfl, rfl, rfl, rfl, rfl, id⟩)
  cases hc : c.pair with
  | none =>
    cases code <;> simp only [State.replyTaken, hc]
    case noticeTaken | noticeOverwrote | noticeClosed => exact decided _
    all_goals exact .refl s
  | some pi =>
    cases code <;> simp only [State.replyTaken, hc]
    case accepted | duplicate => exact dataDelivered_works h ..
    case full => exact dataFull_works h ..
    case tooLong | closed => exact dataRefused_works h ..
    case outOfStep => exact dataOutOfStep_works h ..
    case stepState => exact stepState_works h ..
    all_goals exact decided _

end

theorem closeWatch_works (r : Option (ReplyCode × ReplyFields)) : Works s (s.closeWatch r) := by
  unfold State.closeWatch
  split
  · exact .refl s
  · next w hw =>
    have closed : Works s (s.setTrunk { s.trunk with watch := none }) := .of (.exchange _ rfl rfl)
    dsimp only
    split
    · split
      · next h => exact closed.trans (replyTaken_works h ..)
      · exact closed
    · have counted := closed.trans (countNoReply_works _)
      split
      · next h => exact counted.trans (noReply_works h _)
      · exact counted

theorem judgeWatch_works (f : Frame) : Works s (s.judgeWatch f) := by
  obtain ⟨r, h⟩ := judgeWatch_closes s f
  rw [h]; exact closeWatch_works s r

end Sys2Proof.Machine
end

section
/-!
PROOFS. Every step is a chain of units of work: the events of the trunk and of the clock, the host commands, the
resets, the edges of SEL and one bit time.
-/

namespace Sys2Proof.Machine

variable (s : State)

/-! ### The peer table and the inbox unit -/

theorem ownFrameHeard_works : Works s s.ownFrameHeard := .of (.presence ..)

theorem observe_works (f : Frame) (own : Bool) : Works s (s.observe f own) := by
  unfold State.observe
  split
  · split
    · exact ownFrameHeard_works s
    · exact .refl s
  · split
    · exact .refl s
    · exact .of (.hear ..)

/-- R125, R126: a held step goes on, its hold timer stopped. -/
theorem released_works {q : QueueIx} {c : Context} (h : s.queue q = .held c) :
    Works s (s.setQueue q (.running { c with hold := none })) :=
  .of (.goOn q c _ (.inr h) ⟨rfl, rfl, rfl, rfl, rfl, rfl, rfl, id⟩)

theorem releaseHeld_works (p : Station) (i : InboxIx) (offer : Offer) :
    Works s (s.releaseHeld p i offer) := by
  unfold State.releaseHeld
  split
  · exact .refl s
  · split
    · exact .refl s
    · split
      · next h => exact released_works s h
      · exact .refl s

theorem creditHeard_works (f : Frame) (own : Bool) : Works s (s.creditHeard f own) := by
  unfold State.creditHeard
  split
  · split
    · exact .refl s
    · exact (Works.of (.hint ..)).trans (releaseHeld_works ..)
  · exact .refl s

theorem holdExpired_works (q : QueueIx) : Works s (s.holdExpired q) := by
  unfold State.holdExpired
  split
  · next h =>
    dsimp only; split
    · exact (released_works s h).trans (.of (.hint ..))
    · exact released_works s h
  · exact .refl s

theorem presenceExpired_works : Works s s.presenceExpired := by
  unfold State.presenceExpired; split
  · exact .of (.presence ..)
  · exact .refl s

/-- An acceptance comes only with room. -/
theorem decideRoom_accept {s : State} {i : InboxIx} {n : Nat} {b : Buffer}
    (h : s.decideRoom i n = .accept b) :
    (s.inbox i).offered ≠ 0 ∧ (∃ rest, (s.inbox i).free = b :: rest) ∧ n ≤ b.capacity := by
  unfold State.decideRoom at h
  split at h
  · cases h
  · next room =>
    split at h
    · cases h
    · next b' rest hf =>
      split at h
      · cases h
      · next fits =>
        obtain rfl := DataDecision.accept.inj h
        exact ⟨room, ⟨rest, hf⟩, by omega⟩

/-- A refusal FULL comes only without room. -/
theorem decideRoom_full {s : State} {i : InboxIx} {n : Nat}
    (h : s.decideRoom i n = .refuse .full) : (s.inbox i).offered = 0 := by
  unfold State.decideRoom at h
  split at h
  · assumption
  · split at h
    · next hf => simp [Inbox.offered, hf]
    · split at h <;> cases h

/-- Past the checks 1 and 2 of Table 6-1 a decision is one of those on room. -/
theorem decideData_room {s : State} {p : Station} {i : InboxIx} {seq : Seq} {n : Nat} {d : DataDecision}
    (h : s.decideData p i seq n = d) (hd : d = .refuse .full ∨ ∃ b, d = .accept b) :
    s.decideRoom i n = d := by
  unfold State.decideData at h
  split at h
  · subst h; rcases hd with hd | ⟨b, hd⟩ <;> cases hd
  · split at h
    · split at h
      · subst h; rcases hd with hd | ⟨b, hd⟩ <;> cases hd
      · split at h
        · exact h
        · subst h; rcases hd with hd | ⟨b, hd⟩ <;> cases hd
    · exact h

theorem acceptInto_works {i : InboxIx} (room : (s.inbox i).offered ≠ 0) (b : Buffer) (p : Station)
    (k : ArrivalKind) (l : List Octet) (seq : Option Seq) : Works s (s.acceptInto i b p k l seq) :=
  (Works.of (.memory b.address.val l)).trans (.of (.inbox i _ (.accept _ room)))

theorem dataArrives_works (p : Station) (i : InboxIx) (seq : Seq) (l : List Octet) :
    Works s (s.dataArrives p i seq l) := by
  unfold State.dataArrives
  split
  · next h =>
    exact (Works.of (.inbox i _ (.wait p (decideRoom_full (decideData_room h (.inl rfl)))))).trans
      (compose_works ..)
  · exact compose_works ..
  · next b h =>
    have room := (decideRoom_accept (decideData_room h (.inr ⟨b, rfl⟩))).1
    exact ((acceptInto_works s room ..).trans (.of (.receive ..))).trans (compose_works ..)

theorem bcastArrives_works (p : Station) (i : InboxIx) (l : List Octet) (active : Bool) :
    Works s (s.bcastArrives p i l active) := by
  unfold State.bcastArrives
  split
  · next b h =>
    have accepted : s.decideRoom i l.length = .accept b := by
      unfold State.bcastBuffer at h
      split at h
      · split at h
        · split at h
          · next hd => rw [hd, Option.some.inj h]
          · cases h
        · cases h
      · cases h
    exact acceptInto_works s (decideRoom_accept accepted).1 ..
  · exact (Works.of (.inbox i _ (.drops _ (Nat.min_le_left ..)))).trans (countDrop_works _)

theorem noticeArrives_works (p : Station) (w : WordIx) (v : Value) :
    Works s (s.noticeArrives p w v) := by
  unfold State.noticeArrives; dsimp only; split
  · exact compose_works ..
  · exact (Works.of (.word ..)).trans (compose_works ..)

theorem arrival_works (f : Frame) (active : Bool) : Works s (s.arrival f active) := by
  unfold State.arrival
  split
  · exact .refl s
  · split
    · exact bcastArrives_works ..
    · split
      · exact dataArrives_works ..
      · exact .refl s
    · split
      · exact compose_works ..
      · exact .refl s
    · split
      · exact noticeArrives_works ..
      · exact .refl s
    all_goals exact .refl s

/-! ### Transmissions and the claim unit -/

theorem activityBegins_works : Works s s.activityBegins := by
  unfold State.activityBegins; split
  · next h => exact .of (.begins _ h nofun)
  · exact .refl s

theorem activityBegins_busy : s.activityBegins.trunk.line ≠ .idle := by
  unfold State.activityBegins; split
  · exact nofun
  · assumption

theorem transmit_works (item : Item) (lead : List Octet) (a n : Nat) :
    Works s (s.transmit item lead a n) := by
  unfold State.transmit; split
  · next h => exact (Works.of (.begins .activeTx h nofun)).trans (.of (.exchange _ rfl rfl))
  · exact .refl s

theorem movePointer_works (q : QueueIx) : Works s (s.movePointer q) := by
  unfold State.movePointer; split <;> exact .of (.claim _ rfl rfl rfl rfl (.inr rfl))

@[simp] theorem movePointer_queues (q : QueueIx) : (s.movePointer q).queues = s.queues := by
  unfold State.movePointer; split <;> rfl

/-- R82: the grant records the SEQ sent, and nothing else of the step. -/
theorem granted_continues (c : Context) (f : QueueFrame) : c.Continues (s.granted c f) := by
  unfold State.granted; split <;> exact ⟨rfl, rfl, rfl, rfl, rfl, rfl, rfl, id⟩

theorem grantQueue_works (q : QueueIx) : Works s (s.grantQueue q) := by
  unfold State.grantQueue
  split
  · next c h =>
    have recorded : Works s ((s.movePointer q).setQueue q (.running (s.granted c (s.stepFrame c)))) :=
      (movePointer_works s q).trans (.of (.goOn q c _
        (.inl (by simpa [State.queue] using h)) (granted_continues ..)))
    dsimp only
    split <;> exact recorded.trans (transmit_works ..)
  · exact .refl s

theorem slotBegins_works : Works s s.slotBegins := by
  unfold State.slotBegins
  split
  · split
    · unfold State.grant
      split
      · exact transmit_works ..
      · exact transmit_works ..
      · exact grantQueue_works ..
      · exact transmit_works ..
    · exact .refl s
  · exact .refl s

theorem slotOvertaken_works : Works s s.slotOvertaken := by
  unfold State.slotOvertaken
  split
  · split
    · refine Works.trans ?_ (activityBegins_works _)
      unfold State.grantUnsent
      split
      · exact (movePointer_works ..).trans (frameNotSent_works ..)
      all_goals exact .refl s
    · exact activityBegins_works s
  · exact activityBegins_works s

theorem replyBegins_works : Works s s.replyBegins := by
  unfold State.replyBegins
  split
  · exact .refl s
  · dsimp only; split
    · exact (discardReply_works s).trans (transmit_works ..)
    · exact discardReply_works s

theorem itemClean_works (item : Item) : Works s (s.itemClean item) := by
  have cleared : Works s (if item.claimed then s.setClaim { s.claim with collisionCount := 0 } else s) := by
    split
    · exact .of (.claim _ rfl rfl rfl rfl (.inl (Nat.zero_le 8)))
    · exact .refl s
  unfold State.itemClean; dsimp only; split
  · exact cleared.trans (.of (.claim _ rfl rfl rfl rfl (.inr rfl)))
  · exact cleared.trans (.of (.inbox _ _ .announced))
  · exact cleared.trans (frameSentClean_works ..)
  all_goals exact cleared

theorem claimCollided_works : Works s s.claimCollided := by
  have counted : Works s (s.setClaim { s.claim with
      collisionCount := satAdd collisionLimit s.claim.collisionCount 1 }) :=
    .of (.claim _ rfl rfl rfl rfl (.inl (Nat.min_le_left ..)))
  unfold State.claimCollided; dsimp only; split
  · next h => exact counted.trans (.of (.quiet h.2))
  · exact counted

theorem itemCollided_works (item : Item) : Works s (s.itemCollided item) := by
  have counted : Works s (if item.claimed then s.countCollision.claimCollided else s.countCollision) := by
    split
    · exact (countCollision_works s).trans (claimCollided_works _)
    · exact countCollision_works s
  unfold State.itemCollided; dsimp only; split
  · exact counted.trans (frameNotSent_works ..)
  all_goals exact counted

theorem finding_works (valid : Bool) : Works s (s.finding valid) := by
  unfold State.finding
  split
  · exact .refl s
  · have closed : Works s (s.setTrunk { s.trunk with transmission := none }) := .of (.exchange _ rfl rfl)
    dsimp only; split
    · exact closed.trans (itemClean_works ..)
    · exact closed.trans (itemCollided_works ..)

/-! ### The end of an activity -/

theorem claimInvalid_works : Works s s.claimInvalid := by
  have set : Works s (s.setLastWinner 31) := .of (.claim _ rfl rfl rfl rfl (.inr rfl))
  unfold State.claimInvalid; dsimp only; split
  · next h => exact set.trans (.of (.joinCount h))
  · exact set

theorem claimValid_works (f : Frame) : Works s (s.claimValid f) := by
  have set : Works s (s.setLastWinner f.src) := .of (.claim _ rfl rfl rfl rfl (.inr rfl))
  unfold State.claimValid; dsimp only; split
  · split
    · next h => exact set.trans (.of (.active h))
    · exact set
  · split
    · next h => exact .of (.joinCount h)
    · exact .refl s

theorem invalidEnds_works (l : List Octet) : Works s (s.invalidEnds l) := by
  have ended := (Works.of (Work.keepOctets (s := s) l)).trans (.of .lineEnds)
  unfold State.invalidEnds; dsimp only; split
  · exact (((ended.trans (claimInvalid_works _)).trans (countInvalid_works _)).trans
      (closeWatch_works ..)).trans (finding_works ..)
  · exact ended

theorem frameReported_works (f : Frame) (active own : Bool) :
    Works s (s.frameReported f active own) := by
  have heard := (claimValid_works s f).trans (observe_works _ f own)
  have arrived : Works s (if own then (s.claimValid f).observe f own
      else ((s.claimValid f).observe f own).arrival f active) := by
    split
    · exact heard
    · exact heard.trans (arrival_works ..)
  exact ((arrived.trans (creditHeard_works ..)).trans (judgeWatch_works ..)).trans (finding_works ..)

theorem validEnds_works (f : Frame) (l : List Octet) : Works s (s.validEnds f l) := by
  have ended := (Works.of (Work.keepOctets (s := s) l)).trans (.of .lineEnds)
  unfold State.validEnds; dsimp only; split
  · exact ended.trans (frameReported_works ..)
  · exact ended

theorem activityEnds_works (l : List Character) : Works s (s.activityEnds l) := by
  unfold State.activityEnds; split
  · exact validEnds_works ..
  · exact invalidEnds_works ..

theorem lineStuck_works {s : State} (h : s.trunk.line ≠ .idle) (l : List Octet) :
    Works s (s.lineStuck l) := by
  have entered : Works s (s.keepOctets l).enterStuck :=
    (Works.of (.keepOctets l)).trans (.of (.stuck h))
  have configured : ((s.keepOctets l).setLine .stuck).configured = (s.keepOctets l).configured := rfl
  unfold State.enterStuck at entered
  unfold State.lineStuck; dsimp only
  rw [configured]
  split at entered
  · next hc =>
    rw [if_pos hc]
    exact (entered.trans (closeWatch_works _ none)).trans (finding_works _ false)
  · next hc => rw [if_neg hc]; exact entered

theorem lineReturns_works : Works s s.lineReturns := by
  have ended : Works s s.lineEnds := .of .lineEnds
  unfold State.lineReturns; dsimp only; split
  · exact (ended.trans (claimInvalid_works _)).trans (countInvalid_works _)
  · exact ended

/-! ### Commands -/

theorem event_works {c : Instr} (hc : isEvent c = true) {s t : State} (h : exec c s = .next t) :
    Works s t := by
  cases c <;> simp only [isEvent, Bool.false_eq_true] at hc
  case activityStart => cases h; exact activityBegins_works s
  case transmitMismatch =>
    simp only [exec, execTransmitMismatch] at h
    split at h
    · next line tx =>
      cases h; split
      · exact .of (.mismatch _ line)
      · exact .refl s
    · cases h; exact .refl s
  case transmissionComplete =>
    simp only [exec, execTransmissionComplete] at h
    split at h
    · cases h; split
      · exact .of (.exchange _ rfl rfl)
      · exact .refl s
    · cases h; exact .refl s
  case validFrameEnd l =>
    simp only [exec, execValidFrameEnd] at h
    split at h <;> cases h
    · exact .refl s
    all_goals exact (activityBegins_works s).trans (activityEnds_works _ l)
  case invalidActivityEnd l =>
    simp only [exec, execInvalidActivityEnd] at h
    split at h <;> cases h
    · exact .refl s
    all_goals exact (activityBegins_works s).trans (invalidEnds_works ..)
  case lineFoundStuck l =>
    simp only [exec, execLineFoundStuck] at h
    split at h <;> cases h
    · exact .refl s
    all_goals exact (activityBegins_works s).trans (lineStuck_works (activityBegins_busy s) _)
  case returnToIdle =>
    simp only [exec, execReturnToIdle] at h
    split at h <;> cases h
    · exact lineReturns_works s
    all_goals exact .refl s
  case slotBegin b =>
    cases h; split
    · exact slotOvertaken_works s
    · exact slotBegins_works s
  case replyStart => cases h; exact replyBegins_works s
  case replyWatchTimeout =>
    cases h; split
    · exact closeWatch_works s none
    · exact .refl s
  case joinQuiet =>
    cases h; split
    · next h =>
      have set : Works s (s.setLastWinner 31) := .of (.claim _ rfl rfl rfl rfl (.inr rfl))
      exact set.trans (.of (.active h.1))
    · exact .refl s
  case quietTimerExpiry =>
    cases h; split
    · next h => exact .of (.listening (.inl h.1))
    · exact .refl s
  case silenceTimerExpiry p => cases h; exact .of (.silence p)
  case presenceTimerExpiry => cases h; exact presenceExpired_works s
  case holdTimerExpiry q => cases h; exact holdExpired_works s q

/-! ### Host commands -/

theorem isWaiting_context {st : QueueState} (h : st.isWaiting = true) : st.context = none := by
  cases st with
  | waitingAt d => rfl
  | waitingAfter d => rfl
  | _ => cases h

theorem stopQueue_works (q : QueueIx) : Works s (s.stopQueue q) := by
  have decided {c : Context} (h : (s.queue q).delivers c) : Works s (s.endStep q c true .stopped) :=
    .of (.endStep q c c true .stopped h ⟨rfl, rfl, rfl, rfl, rfl, rfl, rfl, id⟩)
  unfold State.stopQueue
  split
  case h_1 | h_2 => exact .refl s
  case h_3 h | h_4 h => exact .of (.stopWaiting q (by rw [h]; rfl))
  case h_5 c h => exact .of (.stop q c (.inr (.inr h)))
  case h_6 c h =>
    split
    · exact .of (.stop q c (.inl h))
    · exact decided (.inl h)
  case h_7 c h =>
    split
    · exact .of (.stop q c (.inr (.inl h)))
    · exact decided (.inr (.inl h))

/-- A list of fields is read where each of them is. -/
theorem mapM_eq_some_iff {α β : Type} {f : α → Option β} {l : List α} {l' : List β} :
    l.mapM f = some l' ↔ List.Forall₂ (fun a b => f a = some b) l l' := by
  induction l generalizing l' with
  | nil => simp [eq_comm]
  | cons a l ih =>
    rw [List.mapM_cons, List.forall₂_cons_left_iff]
    cases hf : f a with
    | none => simp
    | some b =>
      cases hl : l.mapM f with
      | none => simp [← ih, hl]
      | some bs => simp [← ih, hl, eq_comm]

theorem stationsField_length {own : Station} {count : Octet} {stations : List Octet} {l : List Station}
    (h : stationsField own count stations = some l) : l.length ≤ 8 := by
  unfold stationsField at h
  split at h
  · next hc =>
    split at h
    · next l' hm =>
      split at h
      · obtain rfl := Option.some.inj h
        have := (mapM_eq_some_iff.mp hm).length_eq
        simp only [List.length_take] at this
        omega
      · cases h
    · cases h
  · cases h

theorem addressField_val {a : Half} {m : MemAddr} (h : addressField a = some m) : m.val = a.toNat := by
  unfold addressField at h
  split at h
  · rw [← Option.some.inj h]
  · cases h

theorem inboxPostAnswer_works (i : Octet) (a n : Half) : Works s (s.inboxPostAnswer i a n).state := by
  unfold State.inboxPostAnswer
  split
  · next ix m hi hm =>
    split
    · next hn =>
      split
      · exact .refl s
      · split
        · exact .refl s
        · next room =>
          refine .of (.inbox ix _ (.post _ (by simpa [freeLimit] using room) ⟨hn.1, hn.2.1, ?_⟩))
          rw [addressField_val hm]
          exact hn.2.2
    · exact .refl s
  · exact .refl s

theorem logTakeAnswer_works : Works s s.logTakeAnswer.state := by
  unfold State.logTakeAnswer
  split
  · exact .refl s
  · next r rest h => exact .of (.takeRecord r rest h)

theorem perform_works {x : Instr} (h : anyTime x = true ∨ s.settings.isSome = true) :
    Works s (s.perform x).state := by
  cases x <;> simp only [State.perform]
  case configure l =>
    unfold State.configureAnswer
    split
    · exact .refl s
    · next hn =>
      split
      · exact .of (.configure _ (by simpa [State.configured] using hn))
      · exact .refl s
  case restart a r l => exact .of (.softReset ..)
  case leave =>
    unfold State.leaveAnswer
    split
    · next on =>
      split
      · next line => exact .of (.deferLeave on line)
      · exact .of (.offline on)
    · exact .refl s
  case join =>
    unfold State.joinAnswer
    split
    · next off => exact .of (.listening (.inr off))
    · exact .refl s
  case memWrite a n l =>
    unfold State.memWriteAnswer
    split
    · exact .of (.memory ..)
    · exact .refl s
  case memRead => unfold State.memReadAnswer; split <;> exact .refl s
  case descWrite =>
    unfold State.descWriteAnswer
    split
    · split
      · exact .refl s
      · next free => exact .of (.fill _ _ _ (by simpa using free))
    · exact .refl s
  case descRead => unfold State.descReadAnswer; split <;> exact .refl s
  case descDisarm =>
    unfold State.descDisarmAnswer
    split
    · exact .refl s
    · split
      · exact .refl s
      · split
        · exact .refl s
        · next free => exact .of (.disarm _ (by simp_all))
  case listWrite =>
    unfold State.listWriteAnswer
    split
    · next hl => exact .of (.list _ _ (stationsField_length hl))
    · exact .refl s
  case queueStart =>
    unfold State.queueStartAnswer
    split
    · split
      · next stopped => exact .of (.arrive _ _ _ (by rw [stopped]; rfl))
      · exact .refl s
    · exact .refl s
  case queueResume =>
    unfold State.queueResumeAnswer
    split
    · exact .refl s
    · split
      case h_1 waits => exact .of (.arrive _ _ _ (by rw [waits]; rfl))
      case h_2 waits => exact .of (.followLink _ _ (by rw [waits]; rfl))
      all_goals exact .refl s
  case queueStop =>
    unfold State.queueStopAnswer
    split
    · exact stopQueue_works ..
    · exact .refl s
  case queueRead => unfold State.queueReadAnswer; split <;> exact .refl s
  case inboxPost => exact inboxPostAnswer_works ..
  case inboxTake =>
    unfold State.inboxTakeAnswer
    split
    · exact .refl s
    · split
      · exact .refl s
      · exact .of (.inbox _ _ .take)
  case inboxRead =>
    unfold State.inboxReadAnswer
    split
    · exact .of (.inbox _ _ (.drops 0 (Nat.zero_le _)))
    · exact .refl s
  case noticeTake =>
    unfold State.noticeTakeAnswer
    split
    · exact .of (.word ..)
    · exact .refl s
  case logTake => exact logTakeAnswer_works s
  case peerRead => unfold State.peerReadAnswer; split <;> exact .refl s
  case eventsClear => exact .of (.attention ..)
  case maskWrite => exact .of (.attention ..)
  case countersTake =>
    exact .of (.counters _ (.inl (Nat.zero_le _)) (.inl (Nat.zero_le _)) (.inl (Nat.zero_le _))
      (.inl (Nat.zero_le _)))
  all_goals exact .refl s

/-- Every command is an event, a host command, the hard reset or an edge of SEL. -/
theorem instr_cases (c : Instr) : isEvent c = true ∨ isHost c = true ∨
    (∃ a r l v w, c = .hardReset a r l v w) ∨ c = .selFall ∨ c = .selRise := by
  cases c
  case hardReset a r l v w => exact .inr (.inr (.inl ⟨a, r, l, v, w, rfl⟩))
  case selFall => exact .inr (.inr (.inr (.inl rfl)))
  case selRise => exact .inr (.inr (.inr (.inr rfl)))
  case activityStart | transmitMismatch | transmissionComplete | validFrameEnd | invalidActivityEnd | lineFoundStuck
      | returnToIdle | slotBegin | replyStart | replyWatchTimeout | joinQuiet | quietTimerExpiry | silenceTimerExpiry
      | presenceTimerExpiry | holdTimerExpiry => exact .inl rfl
  all_goals exact .inr (.inl rfl)

/-- R170: an edge of SEL moves the port alone. -/
theorem execSelFall_port : ∃ p, execSelFall s = .next (s.setPort p) := by
  unfold execSelFall
  split
  · exact ⟨_, rfl⟩
  · exact ⟨_, rfl⟩
  · exact ⟨s.port, rfl⟩

theorem exec_works {c : Instr} {s t : State} (h : exec c s = .next t) : Works s t := by
  rcases instr_cases c with hc | hc | ⟨a, r, l, v, w, rfl⟩ | rfl | rfl
  · exact event_works hc h
  · obtain ⟨u, hu, works⟩ := exec_host_induct (P := Works s) hc s
      (fun t p ht => ht.trans (.of (.port p))) (.refl s) fun x _ hx => perform_works s hx
    rw [h] at hu; cases hu; exact works
  · cases h; exact .of (.hardReset ..)
  · obtain ⟨p, hp⟩ := execSelFall_port s
    cases h.symm.trans hp; exact .of (.port p)
  · cases h; exact .of (.port _)

/-- A step is a chain of units of work. -/
theorem step_works {s t : State} (h : step s = .next t) : Works s t := by
  unfold step at h
  split at h
  · cases h; exact (Works.of .advance).trans (.of (.pending _))
  · exact (Works.of (.pending _)).trans (exec_works h)

/-- What every unit of work keeps, every step keeps. -/
theorem step_keeps {P : State → Prop} (keeps : ∀ s t, Work s t → P s → P t) {s t : State}
    (h : step s = .next t) (hs : P s) : P t :=
  (step_works h).keeps keeps hs

/-! ### Steps and commands complete -/

/-- Settles O1: the definition of a step where a command waits. -/
theorem stepTakesTheFrontCommand : Obligations.StepTakesTheFrontCommand := by
  unfold Obligations.StepTakesTheFrontCommand
  intro c rest s h
  unfold step
  rw [h]

end Sys2Proof.Machine
end

section
/-!
PROOFS. The timers and the deferred LEAVE belong to their states (R18, R30, R33, R35, R176): every unit of work
keeps `Timers`.
-/

namespace Sys2Proof.Machine

/-- `Timers` speaks of the claim unit, the line state and the settings. -/
theorem Timers.congr {s t : State} (h : Timers s) (claim : t.claim = s.claim)
    (line : t.trunk.line = s.trunk.line) (settings : t.settings = s.settings) : Timers t := by
  obtain ⟨h1, h2, h3, h4⟩ := h
  constructor <;> rw [claim]
  · rwa [settings]
  · rwa [line]
  · exact h3
  · rwa [line]

theorem EngineKeeps.timers {s t : State} (k : EngineKeeps s t) (h : Timers s) : Timers t :=
  h.congr k.claim (by rw [k.trunk]) k.settings

section
variable (s : State) (p : Station)

theorem hear_trunk (e : Epoch) (fresh : Bool) : (s.hear p e fresh).trunk = s.trunk := by
  unfold State.hear; dsimp only; split <;> split <;> rfl

theorem hear_claim (e : Epoch) (fresh : Bool) : (s.hear p e fresh).claim = s.claim := by
  unfold State.hear; dsimp only; split <;> split <;> rfl

theorem silenceExpired_trunk : (s.silenceExpired p).trunk = s.trunk := by
  unfold State.silenceExpired; dsimp only; split <;> rfl

theorem silenceExpired_claim : (s.silenceExpired p).claim = s.claim := by
  unfold State.silenceExpired; dsimp only; split <;> rfl

end

theorem onTrunk_ne_unconfigured {x : TrunkState} (on : x.onTrunk = true) : x ≠ .unconfigured := by
  rintro rfl; cases on

section
variable {s : State} (h : Timers s)
include h

/-- Where the line is driven by nobody here, no LEAVE is deferred. -/
theorem Timers.not_deferred (line : s.trunk.line ≠ .activeTx) : s.claim.leaveDeferred = false :=
  Bool.eq_false_iff.mpr fun deferred => line (h.leave deferred).1

theorem Timers.join_none (hs : s.claim.state ≠ .listening ∨ s.trunk.line ≠ .idle) :
    s.claim.joinCount = none := by
  cases hj : s.claim.joinCount with
  | none => rfl
  | some n =>
    obtain ⟨state, line⟩ := h.join (by rw [hj]; rfl)
    rcases hs with hs | hs <;> contradiction

theorem Timers.quiet_none (hs : s.claim.state ≠ .quiet) : s.claim.quietTimer = none := by
  simpa using mt h.quiet.mp hs

theorem Timers.configured_of (hs : s.claim.state ≠ .unconfigured) : s.settings ≠ none :=
  mt h.configured.mpr hs

/-- R33: OFFLINE is entered from a state on the trunk. -/
theorem Timers.enterOffline (on : s.claim.state.onTrunk = true) : Timers s.enterOffline where
  configured := iff_of_false nofun (h.configured_of (onTrunk_ne_unconfigured on))
  join := nofun
  quiet := iff_of_false nofun nofun
  leave := nofun

theorem Timers.beginActivity {l : LineState} (idle : s.trunk.line = .idle) :
    Timers (s.beginActivity l) where
  configured := h.configured
  join := nofun
  quiet := h.quiet
  leave deferred := by
    have kept := h.not_deferred (by rw [idle]; exact nofun)
    exact absurd (kept.symm.trans deferred) nofun

/-- R33: whatever drives the line no more leaves no LEAVE deferred, if it does the one that was. -/
theorem Timers.released {t : State} (settings : t.settings = s.settings)
    (claim : t.claim = { s.claim with idleTime := t.claim.idleTime })
    (line : s.claim.joinCount.isSome → t.trunk.line = .idle) : Timers t.finishLeave := by
  unfold State.finishLeave
  have kept (deferred : t.claim.leaveDeferred = false) : Timers t := by
    rw [claim] at deferred
    refine ⟨?_, ?_, ?_, ?_⟩ <;> rw [claim]
    · rw [settings]; exact h.configured
    · exact fun j => ⟨(h.join j).1, line j⟩
    · exact h.quiet
    · exact fun d => absurd (deferred.symm.trans d) nofun
  split
  · next deferred =>
    have on : s.claim.state.onTrunk = true := (h.leave (by rw [claim] at deferred; exact deferred)).2
    refine ⟨iff_of_false nofun ?_, nofun, iff_of_false nofun nofun, nofun⟩
    change ¬ t.settings = none
    rw [settings]
    exact h.configured_of (onTrunk_ne_unconfigured on)
  · next deferred => exact kept (by simpa using deferred)

theorem Timers.lineEnds : Timers s.lineEnds := by
  have released : Timers ((s.setTrunk { s.trunk with line := .idle, unseenStart := false }).setClaim
      { s.claim with idleTime := 0 }).finishLeave := h.released rfl rfl fun _ => rfl
  unfold State.lineEnds; dsimp only; split
  · exact released
  · next line =>
    have kept := h.not_deferred line
    unfold State.finishLeave at released
    rwa [if_neg (by simpa using kept)] at released

theorem Timers.enterListening (hs : s.claim.state ≠ .unconfigured) : Timers s.enterListening where
  configured := iff_of_false nofun (h.configured_of hs)
  join j := by
    refine ⟨rfl, ?_⟩
    change s.startedJoinCount.isSome = true at j
    unfold State.startedJoinCount at j
    split at j
    · assumption
    · cases j
  quiet := iff_of_false nofun nofun
  leave deferred := ⟨(h.leave deferred).1, rfl⟩

theorem Timers.enterActive (hs : s.claim.state = .listening) : Timers s.enterActive where
  configured := iff_of_false nofun (h.configured_of (by rw [hs]; exact nofun))
  join := nofun
  quiet := by
    change s.claim.quietTimer.isSome ↔ _
    rw [h.quiet_none (by rw [hs]; exact nofun)]
    exact iff_of_false nofun nofun
  leave deferred := ⟨(h.leave deferred).1, rfl⟩

theorem Timers.enterQuiet (hs : s.claim.state = .active) : Timers s.enterQuiet where
  configured := iff_of_false nofun (h.configured_of (by rw [hs]; exact nofun))
  join j := by
    change s.claim.joinCount.isSome at j
    rw [h.join_none (.inl (by rw [hs]; exact nofun))] at j
    cases j
  quiet := iff_of_true rfl rfl
  leave deferred := ⟨(h.leave deferred).1, rfl⟩

/-- R163 to R165: the stuck line ends a join count and a deferred LEAVE. -/
theorem Timers.enterStuck (line : s.trunk.line ≠ .idle) : Timers s.enterStuck := by
  have noJoin := h.join_none (.inr line)
  unfold State.enterStuck
  split
  · next configured =>
    refine ⟨iff_of_false nofun ?_, ?_, iff_of_false nofun nofun, nofun⟩
    · change ¬ s.settings = none
      rintro none
      rw [State.configured, none] at configured
      cases configured
    · exact nofun
  · next configured =>
    have none : s.settings = none := by simpa [State.configured] using configured
    have state := h.configured.mpr none
    refine ⟨h.configured, ?_, h.quiet, fun deferred => ?_⟩
    · change s.claim.joinCount.isSome → _
      rw [noJoin]; exact nofun
    · have on := (h.leave deferred).2
      rw [state] at on; cases on

/-- R176: CONFIGURE is taken in UNCONFIGURED. -/
theorem Timers.configure (none : s.settings = none) (c : Settings) : Timers (s.configure c) where
  configured := iff_of_false nofun nofun
  join j := by
    change (State.startedJoinCount _).isSome = true at j
    unfold State.startedJoinCount at j
    split at j
    · exact ⟨rfl, by assumption⟩
    · cases j
  quiet := iff_of_false nofun nofun
  leave deferred := by
    have on := (h.leave deferred).2
    rw [h.configured.mpr none] at on; cases on

theorem Timers.advance : Timers s.advance where
  configured := h.configured
  join j := h.join (by simpa [State.advance] using j)
  quiet := by
    change (s.claim.quietTimer.map (· - 1)).isSome ↔ _
    rw [Option.isSome_map]; exact h.quiet
  leave := h.leave

end

/-- R4, R19: both resets leave the claim unit with nothing running. -/
theorem afterReset_timers {s : State} (settings : s.settings = none) (claim : s.claim = ClaimUnit.initial) :
    Timers s := by
  refine ⟨?_, ?_, ?_, ?_⟩ <;> rw [claim]
  · exact iff_of_true rfl settings
  · exact nofun
  · exact iff_of_false nofun nofun
  · exact nofun

theorem work_keeps_timers {s t : State} (w : Work s t) (h : Timers s) : Timers t := by
  cases w
  case exchange x line _ => exact h.congr rfl line rfl
  case begins l idle _ => exact h.beginActivity idle
  case mismatch t line =>
    exact h.released rfl rfl fun j => absurd (line.symm.trans (h.join j).2) nofun
  case lineEnds => exact h.lineEnds
  case stuck line => exact h.enterStuck line
  case claim x state join quiet leave _ =>
    obtain ⟨h1, h2, h3, h4⟩ := h
    constructor <;> simpa [state, join, quiet, leave]
  case joinCount state =>
    have listens := h.enterListening (by rw [state]; exact nofun)
    exact ⟨h.configured, fun j => ⟨state, (listens.join j).2⟩, h.quiet, h.leave⟩
  case listening state =>
    exact h.enterListening (by rcases state with state | state <;> rw [state] <;> exact nofun)
  case active state => exact h.enterActive state
  case quiet state => exact h.enterQuiet state
  case offline on => exact h.enterOffline on
  case deferLeave on line => exact ⟨h.configured, h.join, h.quiet, fun _ => ⟨line, on⟩⟩
  case hear p e fresh => exact h.congr (hear_claim ..) (by rw [hear_trunk]) (hear_event ..).settings
  case silence p => exact h.congr (silenceExpired_claim ..) (by rw [silenceExpired_trunk]) (silenceExpired_event ..).settings
  case endStep => exact (endStep_keeps ..).timers h
  case arrive => exact (arrive_keeps ..).timers h
  case followLink => exact (followLink_keeps ..).timers h
  case takeRecord => exact ((setLog_keeps ..).trans (serveLog_keeps _)).timers h
  case advance => exact h.advance
  case configure c none => exact h.configure none c
  case softReset x l => exact afterReset_timers rfl rfl
  case hardReset x l sel rst => exact afterReset_timers rfl rfl
  all_goals exact h.congr rfl rfl rfl

/-- Settles O60: every unit of work of a step keeps the timers in their states. -/
theorem stepsKeepTimersInTheirStates : Obligations.StepsKeepTimersInTheirStates := by
  unfold Obligations.StepsKeepTimersInTheirStates
  intro s t h hstep
  exact step_keeps (fun _ _ => work_keeps_timers) hstep h

end Sys2Proof.Machine
end

section
/-!
PROOFS. A descriptor's holder is the queue whose head it is (R57, R62, R63, R71): every unit of work keeps
`Holders`. The send engine takes a descriptor and hands it back; between the two the queue's head stays.
-/

namespace Sys2Proof.Machine

/-! ### What the trunk's own work leaves -/

/-- The blocks of the send engine are the same. -/
structure EngineSame (s t : State) : Prop where
  peers : t.peers = s.peers
  store : t.store = s.store
  queues : t.queues = s.queues
  log : t.log = s.log

namespace EngineSame

theorem refl (s : State) : EngineSame s s := ⟨rfl, rfl, rfl, rfl⟩

theorem trans {s t u : State} (h : EngineSame s t) (k : EngineSame t u) : EngineSame s u :=
  ⟨k.peers.trans h.peers, k.store.trans h.store, k.queues.trans h.queues, k.log.trans h.log⟩

end EngineSame

section
variable (s : State)

theorem finishLeave_engine : EngineSame s s.finishLeave := by
  unfold State.finishLeave; split
  · exact ⟨rfl, rfl, rfl, rfl⟩
  · exact .refl s

theorem mismatchFound_engine (t : Transmission) : EngineSame s (s.mismatchFound t) := by
  refine EngineSame.trans ?_ (finishLeave_engine _)
  exact ⟨rfl, rfl, rfl, rfl⟩

theorem lineEnds_engine : EngineSame s s.lineEnds := by
  unfold State.lineEnds; dsimp only; split
  · refine EngineSame.trans ?_ (finishLeave_engine _)
    exact ⟨rfl, rfl, rfl, rfl⟩
  · exact ⟨rfl, rfl, rfl, rfl⟩

theorem enterStuck_engine : EngineSame s s.enterStuck := by
  unfold State.enterStuck; split <;> exact ⟨rfl, rfl, rfl, rfl⟩

theorem advance_queue (q : QueueIx) : s.advance.queue q = (s.queue q).tick := mapTable_get ..

theorem advance_peer (p : Station) : s.advance.peer p = (s.peer p).tick := mapTable_get ..

theorem softReset_desc (x : Straps) (l : LineLevel) (d : DescIx) :
    (s.softReset x l).desc d = (s.desc d).softReset := mapTable_get ..

theorem hardReset_desc (x : Straps) (l : LineLevel) (sel rst : PinLevel) (d : DescIx) :
    (s.hardReset x l sel rst).desc d = Descriptor.initial := Vector.getElem_replicate ..

end

/-! ### Heads and holders -/

/-- R62: the head of a queue's message. -/
def QueueState.head (st : QueueState) : Option DescIx := st.context.map (·.head)

theorem head_eq_some {st : QueueState} {d : DescIx} :
    st.head = some d ↔ ∃ c, st.context = some c ∧ c.head = d := by
  simp [QueueState.head]

theorem delivers_head {st : QueueState} {c : Context} (h : st.delivers c) : st.head = some c.head := by
  rcases h with rfl | rfl | ⟨rfl, -⟩ <;> rfl

/-- No descriptor changes hands: armed, the holders and the heads of the queues are the same. -/
structure SameHeads (s t : State) : Prop where
  armed : ∀ d, (t.desc d).armed = (s.desc d).armed
  holder : ∀ d, (t.desc d).holder = (s.desc d).holder
  head : ∀ q, (t.queue q).head = (s.queue q).head

namespace SameHeads

theorem refl (s : State) : SameHeads s s := ⟨fun _ => rfl, fun _ => rfl, fun _ => rfl⟩

theorem trans {s t u : State} (h : SameHeads s t) (k : SameHeads t u) : SameHeads s u where
  armed d := (k.armed d).trans (h.armed d)
  holder d := (k.holder d).trans (h.holder d)
  head q := (k.head q).trans (h.head q)

/-- The descriptors and the queues are the same. -/
theorem of_eq {s t : State} (store : t.store.descriptors = s.store.descriptors)
    (queues : t.queues = s.queues) : SameHeads s t := by
  constructor <;> intro x <;> simp only [State.desc, State.queue, store, queues]

theorem engine {s t : State} (h : EngineSame s t) : SameHeads s t := .of_eq (by rw [h.store]) h.queues

theorem setQueue {s : State} {q : QueueIx} {x : QueueState} (h : x.head = (s.queue q).head) :
    SameHeads s (s.setQueue q x) := by
  refine ⟨fun _ => rfl, fun _ => rfl, fun r => ?_⟩
  rw [setQueue_queue]
  split
  · next e => rw [h, e]
  · rfl

theorem holders {s t : State} (h : Holders s) (k : SameHeads s t) : Holders t where
  named d q := by
    rw [k.holder, h.named, ← head_eq_some, ← head_eq_some, k.head]
  armed d := by
    rw [k.holder, k.armed]; exact h.armed d

end SameHeads

/-! ### The step under way -/

/-- R68: the context that has passed over a SILENT destination. -/
def Context.passedOver (c : Context) : Context :=
  { c.freshStep.record .peerSilent with current := c.current + 1 }

section
variable (s : State) {q : QueueIx} {c : Context}

theorem beginSteps_zero : s.beginSteps q c 0 =
    if s.silentStep c.freshStep then .decided (c.freshStep.record .peerSilent) s
    else .underWay (s.beginStep q c.freshStep) := rfl

theorem beginSteps_succ (n : Nat) : s.beginSteps q c (n + 1) =
    if s.silentStep c.freshStep then s.beginSteps q c.passedOver n
    else .underWay (s.beginStep q c.freshStep) := rfl

theorem readHint_heads (h : (s.queue q).head = some c.head) (p : Station) (i : InboxIx) :
    SameHeads s (s.readHint q c p i) := by
  unfold State.readHint
  split <;> exact .setQueue (by rw [h]; rfl)

theorem awaits_running {st : QueueState} {p : Station} {i : InboxIx} (h : st.awaits p i = some c) :
    st = .running c ∧ c.lock = .awaited ∧ c.pair = some (p, i) := by
  unfold QueueState.awaits at h
  split at h
  · split at h
    · next ha => obtain rfl := Option.some.inj h; exact ⟨rfl, ha⟩
    · cases h
  · cases h

/-- R80: the first queue that awaits the lock is another one, and it does await it. -/
theorem firstAwaiting_awaits {p : Station} {i : InboxIx} {r : QueueIx}
    (h : s.firstAwaiting q p i = some (r, c)) : r ≠ q ∧ (s.queue r).awaits p i = some c := by
  unfold State.firstAwaiting at h
  obtain ⟨r', hr', ha⟩ := List.exists_of_findSome?_eq_some h
  obtain ⟨c', hc', e⟩ := Option.map_eq_some_iff.mp ha
  obtain ⟨rfl, rfl⟩ := Prod.mk.inj e
  refine ⟨?_, hc'⟩
  rintro rfl
  revert hr'
  generalize r' = r
  revert r; decide

theorem setLock_heads (p : Station) (i : InboxIx) (l : Option QueueIx) :
    SameHeads s (s.setLock p i l) := .of_eq rfl rfl

theorem releaseLock_heads (q : QueueIx) (p : Station) (i : InboxIx) :
    SameHeads s (s.releaseLock q p i) := by
  unfold State.releaseLock
  split
  · next r c' h =>
    have awaits := (awaits_running (firstAwaiting_awaits s h).2).1
    refine (setLock_heads s p i (some r)).trans (readHint_heads _ ?_ p i)
    change (s.queue r).head = _
    rw [awaits]; rfl
  · exact setLock_heads ..

theorem raiseBlind_heads (c : Context) : SameHeads s (s.raiseBlind c) := by
  unfold State.raiseBlind
  split
  · split
    · exact .of_eq rfl rfl
    · exact .refl s
  · exact .refl s

theorem dropLock_heads (q : QueueIx) (c : Context) : SameHeads s (s.dropLock q c) := by
  unfold State.dropLock
  split
  · split
    · exact releaseLock_heads ..
    · exact .refl s
  · exact .refl s

theorem beginStep_heads (h : (s.queue q).head = some c.head) : SameHeads s (s.beginStep q c) := by
  unfold State.beginStep State.takeLock
  split
  · split
    · exact (setLock_heads ..).trans (readHint_heads _ (by exact h) ..)
    · exact .setQueue (by rw [h]; rfl)
  · exact .setQueue (by rw [h]; rfl)

/-- R68: the steps that begin are those of the same message. -/
theorem beginSteps_heads (h : (s.queue q).head = some c.head) (left : Nat) :
    SameHeads s (s.beginSteps q c left).state ∧
      ∀ c' t, s.beginSteps q c left = .decided c' t → c'.head = c.head := by
  induction left generalizing c with
  | zero =>
    rw [beginSteps_zero]
    split
    · exact ⟨.refl s, fun c' t e => by cases e; rfl⟩
    · exact ⟨beginStep_heads (c := c.freshStep) s h, by simp⟩
  | succ n ih =>
    rw [beginSteps_succ]
    split
    · exact ih (c := c.passedOver) h
    · exact ⟨beginStep_heads (c := c.freshStep) s h, by simp⟩

end

/-! ### Taking a descriptor and handing it back -/

/-- Every holder but queue `q`'s is the queue whose head the descriptor is, and `q` holds none. -/
structure HoldersBut (q : QueueIx) (s : State) : Prop where
  named : ∀ (d : DescIx) (r : QueueIx),
    (s.desc d).holder = some r ↔ r ≠ q ∧ (s.queue r).head = some d
  armed : ∀ d : DescIx, (s.desc d).holder.isSome → (s.desc d).armed = true

section
variable {s : State} {q : QueueIx}

/-- A queue with no head holds no descriptor. -/
theorem Holders.but (h : Holders s) (none : (s.queue q).context = none) : HoldersBut q s where
  named d r := by
    rw [h.named, ← head_eq_some]
    refine ⟨fun hd => ⟨?_, hd⟩, And.right⟩
    rintro rfl
    rw [QueueState.head, none] at hd
    cases hd
  armed := h.armed

theorem HoldersBut.setQueue (h : HoldersBut q s) {x : QueueState} (none : x.context = none) :
    Holders (s.setQueue q x) where
  named d r := by
    change (s.desc d).holder = some r ↔ _
    rw [h.named, ← head_eq_some, setQueue_queue]
    by_cases e : q = r
    · subst e
      have headless : x.head = Option.none := by rw [QueueState.head, none]; rfl
      simp [headless]
    · simp [e, Ne.symm e]
  armed := h.armed

theorem HoldersBut.enterWaiting (h : HoldersBut q s) {x : QueueState} (none : x.context = none) :
    Holders (s.enterWaiting q x) := by
  have waits := h.setQueue none
  unfold State.enterWaiting
  split
  · exact waits
  · exact SameHeads.holders waits (.of_eq rfl rfl)

/-- R63: an available descriptor is taken, and held. -/
theorem HoldersBut.take (h : HoldersBut q s) {d : DescIx} (av : s.available d = true) {x : QueueState}
    (head : x.head = some d) :
    Holders ((s.setDesc d { s.desc d with holder := some q }).setQueue q x) := by
  obtain ⟨armed, free⟩ : (s.desc d).armed = true ∧ (s.desc d).holder = none := by
    simpa [State.available] using av
  refine ⟨fun e r => ?_, fun e => ?_⟩
  · rw [← head_eq_some, setQueue_queue]
    change ((s.setDesc d { s.desc d with holder := some q }).desc e).holder = some r ↔
      (if q = r then x else s.queue r).head = some e
    rw [setDesc_desc]
    by_cases hr : q = r
    · subst hr
      rw [if_pos rfl, head]
      split
      · next hd => simp [hd]
      · next hd => rw [h.named]; simp [hd]
    · rw [if_neg hr]
      split
      · next hd =>
        subst hd
        have := h.named d r
        rw [free] at this
        simpa [hr, Ne.symm hr] using this
      · rw [h.named]; simp [Ne.symm hr]
  · change ((s.setDesc d { s.desc d with holder := some q }).desc e).holder.isSome →
      ((s.setDesc d { s.desc d with holder := some q }).desc e).armed = true
    rw [setDesc_desc]
    split
    · exact fun _ => armed
    · exact h.armed e

/-- R71: the write-back of the head leaves the queue with none. -/
theorem Holders.writeBack (h : Holders s) {c : Context} (head : (s.queue q).head = some c.head) :
    HoldersBut q (s.writeBack c) := by
  refine ⟨fun e r => ?_, fun e => ?_⟩
  · change ((s.setDesc c.head _).desc e).holder = some r ↔ r ≠ q ∧ (s.queue r).head = some e
    rw [setDesc_desc]
    split
    · next he =>
      subst he
      refine iff_of_false nofun ?_
      rintro ⟨hr, hd⟩
      have mine := (h.named c.head q).mpr (head_eq_some.mp head)
      have other := (h.named c.head r).mpr (head_eq_some.mp hd)
      exact hr (Option.some.inj (other.symm.trans mine))
    · next he =>
      rw [h.named, ← head_eq_some]
      refine ⟨fun hd => ⟨?_, hd⟩, And.right⟩
      rintro rfl
      exact he (Option.some.inj (head.symm.trans hd))
  · change ((s.setDesc c.head _).desc e).holder.isSome → ((s.setDesc c.head _).desc e).armed = true
    rw [setDesc_desc]
    split
    · exact nofun
    · exact h.armed e

theorem HoldersBut.congr {t : State} (h : HoldersBut q s)
    (store : t.store.descriptors = s.store.descriptors) (queues : t.queues = s.queues) :
    HoldersBut q t := by
  obtain ⟨h1, h2⟩ := h
  constructor <;> simpa only [State.desc, State.queue, store, queues]

theorem Holders.handBack (h : Holders s) {c : Context} (head : (s.queue q).head = some c.head) :
    HoldersBut q (s.handBack q c) := by
  unfold State.handBack
  split
  · exact (h.writeBack head).congr rfl rfl
  · exact h.writeBack head

/-- R63, R72: wherever the queue arrives, the holders are right again. -/
theorem HoldersBut.arrive (h : HoldersBut q s) (d : DescIx) (fuel : Nat) :
    Holders (s.arrive q d fuel) := by
  induction fuel generalizing s d with
  | zero => exact h.enterWaiting rfl
  | succ n ih =>
    unfold State.arrive
    split
    · next av =>
      have taken := h.take av (x := .running (s.newContext d)) rfl
      have head : (((s.setDesc d { s.desc d with holder := some q }).setQueue q
          (.running (s.newContext d))).queue q).head = some (s.newContext d).head := by
        rw [setQueue_queue, if_pos rfl]; rfl
      have steps := beginSteps_heads _ head (s.newContext d).left
      split
      · next t ht =>
        unfold State.takeDescriptor at ht
        dsimp only at ht
        split at ht
        · rw [ht] at steps; exact SameHeads.holders taken steps.1
        · cases ht
      · next c t ht =>
        have settled : Holders t ∧ (t.queue q).head = some c.head := by
          unfold State.takeDescriptor at ht
          dsimp only at ht
          split at ht
          · have hc := steps.2 c t ht
            rw [ht] at steps
            exact ⟨SameHeads.holders taken steps.1, by rw [hc]; exact (steps.1.head q).trans head⟩
          · cases ht; exact ⟨taken, head⟩
        obtain ⟨holders, headed⟩ := settled
        split
        · exact SameHeads.holders holders (.setQueue (by rw [headed]; rfl))
        · have back := holders.handBack headed
          dsimp only
          split
          · exact back.enterWaiting rfl
          · exact ih back _
    · exact h.enterWaiting rfl

theorem HoldersBut.followLink (h : HoldersBut q s) (d : DescIx) : Holders (s.followLink q d) := by
  unfold State.followLink
  split
  · exact h.enterWaiting rfl
  · exact h.arrive ..

theorem Holders.settle (h : Holders s) {c : Context} (head : (s.queue q).head = some c.head)
    (stopping : Bool) : Holders (s.settle q c stopping) := by
  unfold State.settle
  split
  · refine SameHeads.holders h (.setQueue ?_)
    rw [head]; split <;> rfl
  · have back := h.handBack head
    dsimp only
    split
    · exact back.setQueue rfl
    · exact back.followLink _

theorem Holders.endStep (h : Holders s) {c : Context} (head : (s.queue q).head = some c.head)
    (stopping : Bool) (o : Outcome) : Holders (s.endStep q c stopping o) := by
  have dropped := (raiseBlind_heads s c).trans (dropLock_heads _ q c)
  have headed := (dropped.head q).trans head
  unfold State.endStep
  dsimp only
  split
  · exact (SameHeads.holders h dropped).settle (c := c.ended o) headed _
  · have steps := beginSteps_heads ((s.raiseBlind c).dropLock q c)
      (c := { c.ended o with current := (c.ended o).current + 1 }) headed ((c.ended o).left - 1)
    split
    · next ht => rw [ht] at steps; exact SameHeads.holders h (dropped.trans steps.1)
    · next c' t ht =>
      have hc := steps.2 c' t ht
      rw [ht] at steps
      exact (SameHeads.holders h (dropped.trans steps.1)).settle (by rw [hc]; exact (steps.1.head q).trans headed) _

/-- R149: the log arbiter hands one waiting queue's descriptor back. -/
theorem Holders.serveLog (h : Holders s) : Holders s.serveLog := by
  unfold State.serveLog
  split
  · next q _ =>
    have served {c : Context} (head : (s.queue q).head = some c.head) :
        HoldersBut q ((s.writeBack c).appendRecord (c.completion q)) :=
      (h.writeBack head).congr rfl rfl
    unfold State.serveQueue
    split
    case h_1 c hq => exact (served (by rw [hq]; rfl)).followLink _
    case h_2 c hq =>
      split
      · exact (served (by rw [hq]; rfl)).setQueue rfl
      · exact h
    all_goals exact h
  · exact h

end

/-! ### Units of work -/

theorem peerRestarted_head (st : QueueState) (p : Station) (e : PeerEntry) :
    (st.peerRestarted p e).head = st.head := by
  have kept (c : Context) : (c.peerRestarted p e).head = c.head := by
    unfold Context.peerRestarted; split <;> rfl
  cases st <;> simp [QueueState.peerRestarted, QueueState.head, QueueState.context, kept]

theorem hear_heads (s : State) (p : Station) (e : Epoch) (fresh : Bool) :
    SameHeads s (s.hear p e fresh) := by
  have heard : SameHeads s (if (s.peer p).state = .present then s.setPeer p ((s.peer p).heard e fresh)
      else (s.setPeer p ((s.peer p).heard e fresh)).latchPeerChange) := by
    split <;> exact .of_eq rfl rfl
  unfold State.hear
  dsimp only
  split
  · refine heard.trans ⟨fun _ => rfl, fun _ => rfl, fun q => ?_⟩
    rw [State.peerRestarted]
    exact (congrArg _ (mapTable_get ..)).trans (peerRestarted_head ..)
  · exact heard

theorem tick_head (st : QueueState) : st.tick.head = st.head := by
  cases st <;> rfl

/-- R77: after a reset no descriptor is held, and no queue has a head. -/
theorem reset_holders {s : State} (queues : s.queues = Vector.replicate 4 .stopped)
    (free : ∀ d, (s.desc d).holder = none) : Holders s where
  named d q := by
    rw [free, ← head_eq_some, State.queue, queues]
    simp [QueueState.head, QueueState.context]
  armed d := by rw [free]; exact nofun

/-- A descriptor that no queue holds may be written at will, its holder none. -/
theorem Holders.setDesc {s : State} (h : Holders s) {d : DescIx} (unheld : (s.desc d).holder = none)
    {x : Descriptor} (none : x.holder = none) : Holders (s.setDesc d x) where
  named e q := by
    rw [setDesc_desc]
    change _ ↔ ∃ c, (s.queue q).context = some c ∧ c.head = e
    split
    · next hd => rw [← h.named, ← hd, none, unheld]
    · exact h.named e q
  armed e := by
    rw [setDesc_desc]
    split
    · rw [none]; exact nofun
    · exact h.armed e

theorem work_keeps_holders {s t : State} (w : Work s t) (h : Holders s) : Holders t := by
  have moved {q : QueueIx} {c : Context} (hc : (s.queue q).head = some c.head) {x : QueueState}
      (hx : x.head = some c.head) : Holders (s.setQueue q x) :=
    SameHeads.holders h (.setQueue (hx.trans hc.symm))
  cases w
  case hear p e fresh => exact SameHeads.holders h (hear_heads s p e fresh)
  case silence p =>
    refine SameHeads.holders h (.of_eq ?_ ?_) <;> unfold State.silenceExpired <;> dsimp only <;>
      split <;> rfl
  case mismatch => exact SameHeads.holders h (.engine (mismatchFound_engine ..))
  case lineEnds => exact SameHeads.holders h (.engine (lineEnds_engine s))
  case stuck => exact SameHeads.holders h (.engine (enterStuck_engine s))
  case goOn q c c' hq k =>
    refine moved (c := c) ?_ (congrArg some k.head)
    rcases hq with hq | hq <;> rw [hq] <;> rfl
  case hold q c c' hq k => exact moved (c := c) (by rw [hq]; rfl) (congrArg some k.head)
  case stopGoesOn q c c' hq _ k => exact moved (c := c) (by rw [hq]; rfl) (congrArg some k.head)
  case stop q c hq =>
    refine moved (c := c) ?_ rfl
    rcases hq with hq | hq | hq <;> rw [hq] <;> rfl
  case stopWaiting q hq => exact (h.but (isWaiting_context hq)).setQueue rfl
  case endStep q c c' stopping o hq k =>
    exact h.endStep (by rw [delivers_head hq, k.head]) stopping o
  case arrive q d fuel hq => exact (h.but hq).arrive d fuel
  case followLink q d hq => exact (h.but hq).followLink d
  case takeRecord r rest _ => exact Holders.serveLog (SameHeads.holders h (.of_eq rfl rfl))
  case fill d host arm free =>
    have unheld : (s.desc d).holder = none := by
      cases hd : (s.desc d).holder with
      | none => rfl
      | some q => exact absurd (free.symm.trans (h.armed d (by rw [hd]; rfl))) nofun
    exact h.setDesc unheld rfl
  case disarm d free => exact h.setDesc free free
  case advance =>
    refine SameHeads.holders h ⟨fun _ => rfl, fun _ => rfl, fun q => ?_⟩
    rw [advance_queue, tick_head]
  case softReset x l => exact reset_holders rfl fun d => by rw [softReset_desc]; rfl
  case hardReset x l sel rst => exact reset_holders rfl fun d => by rw [hardReset_desc]; rfl
  all_goals exact SameHeads.holders h (.of_eq rfl rfl)

/-- Settles O59: every unit of work of a step keeps each descriptor with the queue whose head it is. -/
theorem stepsKeepHoldersWithTheirQueues : Obligations.StepsKeepHoldersWithTheirQueues := by
  unfold Obligations.StepsKeepHoldersWithTheirQueues
  intro s t h hstep
  exact step_keeps (fun _ _ => work_keeps_holders) hstep h

end Sys2Proof.Machine
end

section
/-!
PROOFS. A pair's lock names the queue whose step under way holds it (R51, R71, R78 to R80): every unit of work keeps
`Locks`. A step that ends drops its lock or hands it over, and from then to the beginning of its next step the queue
holds none.
-/

namespace Sys2Proof.Machine

/-! ### What a queue holds -/

theorem holdsLock_context {st : QueueState} {c : Context} (h : st.context = some c) (p : Station)
    (i : InboxIx) : st.holdsLock p i ↔ c.lock = .taken ∧ c.pair = some (p, i) := by
  simp [QueueState.holdsLock, h]

theorem not_holdsLock_of_none {st : QueueState} (h : st.context = none) (p : Station) (i : InboxIx) :
    ¬ st.holdsLock p i := by
  simp [QueueState.holdsLock, h]

theorem not_holdsLock_of_lock {st : QueueState} {c : Context} (h : st.context = some c)
    (lock : c.lock ≠ .taken) (p : Station) (i : InboxIx) : ¬ st.holdsLock p i := by
  rw [holdsLock_context h]; exact fun held => lock held.1

theorem delivers_context {st : QueueState} {c : Context} (h : st.delivers c) : st.context = some c := by
  rcases h with rfl | rfl | ⟨rfl, -⟩ <;> rfl

theorem delivers_outcome {st : QueueState} {c : Context} (h : st.delivers c) (once : st.settlesOnce) :
    c.outcome = none := by
  rcases h with rfl | rfl | ⟨-, unsettled⟩
  · exact once
  · exact once
  · exact unsettled

theorem Context.Continues.station {c c' : Context} (k : c.Continues c') : c'.station = c.station := by
  unfold Context.station
  rw [k.destinations, k.current]

theorem Context.Continues.pair {c c' : Context} (k : c.Continues c') : c'.pair = c.pair := by
  unfold Context.pair Context.isMessage
  rw [k.station, k.copy]

/-- Nothing of locks changes: no record's lock, no lock that a queue holds, and what is unsettled stays so. -/
structure SameLocks (s t : State) : Prop where
  lock : ∀ p i, (t.sendPair p i).lock = (s.sendPair p i).lock
  holds : ∀ q p i, (t.queue q).holdsLock p i ↔ (s.queue q).holdsLock p i
  once : ∀ q, (s.queue q).settlesOnce → (t.queue q).settlesOnce

/-- Every lock but those of queue `q` is held by the queue it names, and `q` holds none. -/
structure LocksBut (q : QueueIx) (s : State) : Prop where
  named : ∀ (p : Station) (i : InboxIx) (r : QueueIx),
    (s.sendPair p i).lock = some r ↔ r ≠ q ∧ (s.queue r).holdsLock p i
  once : ∀ r : QueueIx, r ≠ q → (s.queue r).settlesOnce

section
variable {s t : State} {q : QueueIx}

theorem Locks.congr (h : Locks s) (k : SameLocks s t) : Locks t where
  named p i q := by rw [k.lock, h.named, k.holds]
  once q := k.once q (h.once q)

theorem SameLocks.of_queues (lock : ∀ p i, (t.sendPair p i).lock = (s.sendPair p i).lock)
    (queues : t.queues = s.queues) : SameLocks s t := by
  constructor
  · exact lock
  all_goals intro q; simp [State.queue, queues]

theorem SameLocks.of_eq (peers : t.peers.entries = s.peers.entries) (queues : t.queues = s.queues) : SameLocks s t :=
  .of_queues (fun p i => by simp only [State.sendPair, State.peer, peers]) queues

theorem SameLocks.setQueue {x : QueueState} (holds : ∀ p i, x.holdsLock p i ↔ (s.queue q).holdsLock p i)
    (once : (s.queue q).settlesOnce → x.settlesOnce) : SameLocks s (s.setQueue q x) := by
  refine ⟨fun _ _ => rfl, fun r p i => ?_, fun r => ?_⟩ <;> rw [setQueue_queue] <;> split
  · next e => rw [← e]; exact holds p i
  · rfl
  · next e => rw [← e]; exact once
  · exact id

theorem Locks.but (h : Locks s) (none : ∀ p i, ¬ (s.queue q).holdsLock p i) : LocksBut q s where
  named p i r := by
    rw [h.named]
    refine ⟨fun held => ⟨?_, held⟩, And.right⟩
    rintro rfl
    exact none p i held
  once r _ := h.once r

theorem LocksBut.congr (h : LocksBut q s) (lock : ∀ p i, (t.sendPair p i).lock = (s.sendPair p i).lock)
    (queues : ∀ r, r ≠ q → t.queue r = s.queue r) : LocksBut q t where
  named p i r := by
    rw [lock, h.named]
    refine and_congr_right fun hr => ?_
    rw [queues r hr]
  once r hr := by rw [queues r hr]; exact h.once r hr

theorem LocksBut.setQueue (h : LocksBut q s) {x : QueueState} (none : ∀ p i, ¬ x.holdsLock p i)
    (once : x.settlesOnce) : Locks (s.setQueue q x) where
  named p i r := by
    change (s.sendPair p i).lock = some r ↔ _
    rw [h.named, setQueue_queue]
    by_cases e : q = r
    · subst e; simpa using none p i
    · simp [e, Ne.symm e]
  once r := by
    rw [setQueue_queue]
    split
    · exact once
    · next e => exact h.once r (Ne.symm e)

theorem setLock_lock (p r : Station) (i j : InboxIx) (l : Option QueueIx) :
    ((s.setLock p i l).sendPair r j).lock = if p = r ∧ i = j then l else (s.sendPair r j).lock := by
  rw [State.setLock, setSendPair_sendPair]
  split <;> rfl

/-- R79: a free lock is taken. -/
theorem LocksBut.lock (h : LocksBut q s) {p : Station} {i : InboxIx} (free : (s.sendPair p i).lock = none)
    {x : QueueState} (holds : ∀ r j, x.holdsLock r j ↔ p = r ∧ i = j) (once : x.settlesOnce) :
    Locks ((s.setLock p i (some q)).setQueue q x) where
  named r j n := by
    change ((s.setLock p i (some q)).sendPair r j).lock = some n ↔ _
    rw [setLock_lock, setQueue_queue]
    change _ ↔ (if q = n then x else s.queue n).holdsLock r j
    by_cases e : q = n
    · subst e
      rw [if_pos rfl, holds]
      split
      · next hp => simp [hp]
      · next hp => rw [h.named]; simp [hp]
    · rw [if_neg e]
      split
      · next hp =>
        obtain ⟨rfl, rfl⟩ := hp
        have unheld := h.named p i n
        rw [free] at unheld
        simpa [e, Ne.symm e] using unheld
      · rw [h.named]; simp [Ne.symm e]
  once n := by
    rw [setQueue_queue]
    split
    · exact once
    · next e => exact h.once n (Ne.symm e)

/-- R80: the one lock a queue holds is released, and handed over to the first queue that awaits it. -/
theorem Locks.releaseLock (h : Locks s) {p : Station} {i : InboxIx}
    (holds : ∀ r j, (s.queue q).holdsLock r j ↔ p = r ∧ i = j) : LocksBut q (s.releaseLock q p i) := by
  have mine : (s.sendPair p i).lock = some q := (h.named p i q).mpr ((holds p i).mpr ⟨rfl, rfl⟩)
  have released : LocksBut q (s.setLock p i none) := by
    refine ⟨fun r j n => ?_, fun n _ => h.once n⟩
    rw [setLock_lock]
    change _ ↔ n ≠ q ∧ (s.queue n).holdsLock r j
    split
    · next hp =>
      obtain ⟨rfl, rfl⟩ := hp
      refine iff_of_false nofun ?_
      rintro ⟨hn, held⟩
      exact hn (Option.some.inj (((h.named p i n).mpr held).symm.trans mine))
    · next hp =>
      rw [h.named]
      refine ⟨fun held => ⟨?_, held⟩, And.right⟩
      rintro rfl
      exact hp ((holds r j).mp held)
  unfold State.releaseLock
  split
  · next r c hr =>
    obtain ⟨hne, awaits⟩ := firstAwaiting_awaits s hr
    obtain ⟨running, awaited, pair⟩ := awaits_running awaits
    have unsettled : c.outcome = none := by have := h.once r; rw [running] at this; exact this
    have notHeld : ∀ r' j, ¬ (s.queue r).holdsLock r' j :=
      not_holdsLock_of_lock (c := c) (by rw [running]; rfl) (by rw [awaited]; exact nofun)
    have handed {x : QueueState} (hx : ∀ r' j, x.holdsLock r' j ↔ p = r' ∧ i = j) (once : x.settlesOnce) :
        LocksBut q ((s.setLock p i (some r)).setQueue r x) := by
      refine ⟨fun r' j n => ?_, fun n hn => ?_⟩
      · change ((s.setLock p i (some r)).sendPair r' j).lock = some n ↔ _
        have before := released.named r' j n
        rw [setLock_lock] at before ⊢
        rw [setQueue_queue]
        change _ ↔ n ≠ q ∧ (if r = n then x else s.queue n).holdsLock r' j
        change _ ↔ n ≠ q ∧ (s.queue n).holdsLock r' j at before
        by_cases e : r = n
        · subst e
          rw [if_pos rfl, hx]
          split
          · next hp => simp [hne, hp]
          · next hp =>
            rw [if_neg hp] at before
            rw [before]
            simp [notHeld, hp]
        · rw [if_neg e]
          split
          · next hp =>
            rw [if_pos hp] at before
            rw [← before]
            simp [e]
          · next hp => rw [if_neg hp] at before; exact before
      · rw [setQueue_queue]
        split
        · exact once
        · exact h.once n
    unfold State.readHint
    have taken (st : QueueState) (hold : Option Nat)
        (hst : st.context = some { c with lock := .taken, hold := hold }) (r' : Station) (j : InboxIx) :
        st.holdsLock r' j ↔ p = r' ∧ i = j := by
      rw [holdsLock_context hst]
      change StepLock.taken = .taken ∧ c.pair = some (r', j) ↔ _
      rw [pair]
      simp
    split
    · exact handed (taken _ _ rfl) unsettled
    · exact handed (taken _ c.hold rfl) unsettled
  · exact released

theorem raiseBlind_locks (c : Context) : SameLocks s (s.raiseBlind c) := by
  unfold State.raiseBlind
  split
  · split
    · refine .of_queues (fun p i => ?_) rfl
      rw [setSendPair_sendPair]
      split
      · next e => rw [← e.1, ← e.2]
      · rfl
    · exact .of_eq rfl rfl
  · exact .of_eq rfl rfl

/-- R95, item 2: when a step has ended, its queue holds no lock. -/
theorem Locks.dropLock (h : Locks s) {c : Context}
    (holds : ∀ p i, (s.queue q).holdsLock p i ↔ c.lock = .taken ∧ c.pair = some (p, i)) :
    LocksBut q (s.dropLock q c) := by
  unfold State.dropLock
  split
  · next p i hp =>
    split
    · next taken =>
      refine h.releaseLock fun r j => ?_
      rw [holds, hp]
      simp [taken]
    · next free => exact h.but fun r j => by rw [holds]; exact fun held => free held.1
  · next hp => exact h.but fun r j => by rw [holds, hp]; exact fun held => nomatch held.2

/-! ### Beginning steps -/

/-- R79: a step that begins takes the lock of its pair or awaits it. -/
theorem LocksBut.beginStep (h : LocksBut q s) {c : Context} (unsettled : c.outcome = none)
    (lock : c.lock = .none) : Locks (s.beginStep q c) := by
  unfold State.beginStep
  split
  · next p i hp =>
    unfold State.takeLock
    split
    · next free =>
      have taken (st : QueueState) (hold : Option Nat)
          (hst : st.context = some { c with lock := .taken, hold := hold }) (r : Station) (j : InboxIx) :
          st.holdsLock r j ↔ p = r ∧ i = j := by
        rw [holdsLock_context hst]
        change StepLock.taken = .taken ∧ c.pair = some (r, j) ↔ _
        rw [hp]
        simp
      unfold State.readHint
      split
      · exact h.lock free (taken _ _ rfl) unsettled
      · exact h.lock free (taken _ c.hold rfl) unsettled
    · exact h.setQueue (not_holdsLock_of_lock rfl nofun) unsettled
  · exact h.setQueue (not_holdsLock_of_lock rfl (by rw [lock]; exact nofun)) unsettled

/-- Where every destination left is SILENT, nothing but the context has moved. -/
theorem beginSteps_decided {c c' : Context} {left : Nat} (h : s.beginSteps q c left = .decided c' t) :
    t = s ∧ c'.lock = .none ∧ c'.outcome = c.outcome := by
  induction left generalizing c with
  | zero =>
    rw [beginSteps_zero] at h
    split at h
    · cases h; exact ⟨rfl, rfl, rfl⟩
    · cases h
  | succ n ih =>
    rw [beginSteps_succ] at h
    split at h
    · exact ih (c := c.passedOver) h
    · cases h

theorem LocksBut.beginSteps (h : LocksBut q s) {c : Context} (unsettled : c.outcome = none) {left : Nat}
    (ht : s.beginSteps q c left = .underWay t) : Locks t := by
  induction left generalizing c with
  | zero =>
    rw [beginSteps_zero] at ht
    split at ht
    · cases ht
    · cases ht; exact h.beginStep (c := c.freshStep) unsettled rfl
  | succ n ih =>
    rw [beginSteps_succ] at ht
    split at ht
    · exact ih (c := c.passedOver) unsettled ht
    · cases ht; exact h.beginStep (c := c.freshStep) unsettled rfl

/-! ### Settlement -/

theorem handBack_engine (q : QueueIx) (c : Context) :
    (s.handBack q c).peers = s.peers ∧ (s.handBack q c).queues = s.queues := by
  unfold State.handBack; split <;> exact ⟨rfl, rfl⟩

theorem LocksBut.same (h : LocksBut q s) (peers : t.peers = s.peers) (queues : t.queues = s.queues) :
    LocksBut q t :=
  h.congr (fun p i => by simp only [State.sendPair, State.peer, peers])
    fun r _ => by simp only [State.queue, queues]

theorem LocksBut.handBack (h : LocksBut q s) (c : Context) : LocksBut q (s.handBack q c) :=
  h.same (handBack_engine q c).1 (handBack_engine q c).2

theorem LocksBut.enterWaiting (h : LocksBut q s) {x : QueueState} (none : x.context = none)
    (once : x.settlesOnce) : Locks (s.enterWaiting q x) := by
  have waits := h.setQueue (not_holdsLock_of_none none) once
  unfold State.enterWaiting
  split
  · exact waits
  · exact waits.congr (.of_eq rfl rfl)

theorem LocksBut.arrive (h : LocksBut q s) (d : DescIx) (fuel : Nat) : Locks (s.arrive q d fuel) := by
  induction fuel generalizing s d with
  | zero => exact h.enterWaiting rfl trivial
  | succ n ih =>
    have taken : LocksBut q ((s.setDesc d { s.desc d with holder := some q }).setQueue q
        (.running (s.newContext d))) :=
      h.congr (fun _ _ => rfl) fun r hr => by rw [setQueue_queue, if_neg (Ne.symm hr)]; rfl
    unfold State.arrive
    split
    · split
      · next t ht =>
        unfold State.takeDescriptor at ht
        dsimp only at ht
        split at ht
        · exact taken.beginSteps rfl ht
        · cases ht
      · next c t ht =>
        have settled : LocksBut q t ∧ c.lock = .none := by
          unfold State.takeDescriptor at ht
          dsimp only at ht
          split at ht
          · obtain ⟨rfl, lock, -⟩ := beginSteps_decided ht
            exact ⟨taken, lock⟩
          · cases ht; exact ⟨taken, rfl⟩
        obtain ⟨but, lock⟩ := settled
        split
        · exact but.setQueue (not_holdsLock_of_lock (c := c.settled) rfl (by
            change c.lock ≠ _; rw [lock]; exact nofun)) lock
        · dsimp only
          split
          · exact (but.handBack c).enterWaiting rfl trivial
          · exact ih (but.handBack c) _
    · exact h.enterWaiting rfl trivial

theorem LocksBut.followLink (h : LocksBut q s) (d : DescIx) : Locks (s.followLink q d) := by
  unfold State.followLink
  split
  · exact h.enterWaiting rfl trivial
  · exact h.arrive ..

theorem LocksBut.settle (h : LocksBut q s) {c : Context} (lock : c.lock = .none) (stopping : Bool) :
    Locks (s.settle q c stopping) := by
  have free : c.settled.lock ≠ .taken := by change c.lock ≠ _; rw [lock]; exact nofun
  unfold State.settle
  split
  · split
    · exact h.setQueue (not_holdsLock_of_lock (c := c.settled) rfl free) fun _ => lock
    · exact h.setQueue (not_holdsLock_of_lock (c := c.settled) rfl free) lock
  · dsimp only
    split
    · exact (h.handBack c).setQueue (not_holdsLock_of_none rfl) trivial
    · exact (h.handBack c).followLink _

/-- R95: the end of a step leaves every lock with the queue that holds it. -/
theorem Locks.endStep (h : Locks s) {c c' : Context} (hq : (s.queue q).delivers c) (k : c.Continues c')
    (stopping : Bool) (o : Outcome) : Locks (s.endStep q c' stopping o) := by
  have raised := raiseBlind_locks (s := s) c'
  have dropped : LocksBut q ((s.raiseBlind c').dropLock q c') := by
    refine (h.congr raised).dropLock fun p i => ?_
    rw [raised.holds, holdsLock_context (delivers_context hq), k.lock, k.pair]
  have unsettled : c'.outcome = none := k.outcome.trans (delivers_outcome hq (h.once q))
  unfold State.endStep
  dsimp only
  split
  · exact dropped.settle (c := c'.ended o) rfl _
  · split
    · next t ht =>
      exact dropped.beginSteps (c := { c'.ended o with current := (c'.ended o).current + 1 }) unsettled ht
    · next c'' t ht =>
      obtain ⟨rfl, lock, -⟩ := beginSteps_decided ht
      exact dropped.settle lock _

/-- R149: the queue that the log arbiter serves holds no lock. -/
theorem Locks.serveLog (h : Locks s) : Locks s.serveLog := by
  unfold State.serveLog
  split
  · next q _ =>
    have served {c : Context} (hc : (s.queue q).context = some c) (lock : c.lock = .none) :
        LocksBut q ((s.writeBack c).appendRecord (c.completion q)) :=
      LocksBut.same (h.but (not_holdsLock_of_lock hc (by rw [lock]; exact nofun))) rfl rfl
    unfold State.serveQueue
    split
    case h_1 c hq =>
      have lock := h.once q
      rw [hq] at lock
      exact (served (by rw [hq]; rfl) lock).followLink _
    case h_2 c hq =>
      split
      · next settled =>
        have lock := h.once q
        rw [hq] at lock
        exact (served (by rw [hq]; rfl) (lock settled)).setQueue (not_holdsLock_of_none rfl) trivial
      · exact h
    all_goals exact h
  · exact h

end

/-! ### Units of work -/

/-- R48: a hearing keeps the locks of the records. -/
theorem heard_lock (e : PeerEntry) (epoch : Epoch) (fresh : Bool) (i : InboxIx) :
    ((e.heard epoch fresh).send[i]).lock = (e.send[i]).lock := by
  unfold PeerEntry.heard
  dsimp only
  split
  · simp [PeerEntry.restart]
  · rfl

theorem hear_peer (s : State) (p r : Station) (e : Epoch) (fresh : Bool) :
    (s.hear p e fresh).peer r = if p = r then (s.peer p).heard e fresh else s.peer r := by
  rw [(hear_receiver s p e fresh).peer, setPeer_peer]

/-- A context after a restart holds what it held, and is settled where it was. -/
theorem peerRestarted_locks (st : QueueState) (p : Station) (e : PeerEntry) :
    (∀ r i, (st.peerRestarted p e).holdsLock r i ↔ st.holdsLock r i) ∧
      (st.settlesOnce → (st.peerRestarted p e).settlesOnce) := by
  have kept (c : Context) : (c.peerRestarted p e).lock = c.lock ∧
      (c.peerRestarted p e).pair = c.pair ∧ (c.peerRestarted p e).outcome = c.outcome := by
    unfold Context.peerRestarted; split <;> exact ⟨rfl, rfl, rfl⟩
  constructor
  · intro r i
    cases st <;> simp [QueueState.peerRestarted, QueueState.holdsLock, QueueState.context, kept]
  · cases st <;> simp [QueueState.peerRestarted, QueueState.settlesOnce, kept]

theorem hear_queue (s : State) (p : Station) (e : Epoch) (fresh : Bool) (q : QueueIx) :
    (s.hear p e fresh).queue q =
      if (s.peer p).restartedBy e fresh then (s.queue q).peerRestarted p (s.peer p) else s.queue q := by
  unfold State.hear
  dsimp only
  split
  · refine (mapTable_get ..).trans ?_
    split <;> rfl
  · split <;> rfl

theorem hear_locks (s : State) (p : Station) (e : Epoch) (fresh : Bool) :
    SameLocks s (s.hear p e fresh) := by
  refine ⟨fun r i => ?_, fun q r i => ?_, fun q => ?_⟩
  · rw [State.sendPair, hear_peer]
    split
    · next hp => rw [heard_lock, hp]; rfl
    · rfl
  · rw [hear_queue]
    split
    · exact (peerRestarted_locks ..).1 r i
    · rfl
  · rw [hear_queue]
    split
    · exact (peerRestarted_locks ..).2
    · exact id

/-- One entry of the peer table is written, its send pair records kept. -/
theorem setPeer_sameLocks {s : State} {p : Station} {x : PeerEntry} (h : x.send = (s.peer p).send) :
    SameLocks s (s.setPeer p x) := by
  refine .of_queues (fun r i => ?_) rfl
  rw [State.sendPair, setPeer_peer]
  split
  · next hp =>
    subst hp
    have same : x.send[i] = (s.peer p).send[i] := by simp only [h]
    exact congrArg SendPair.lock same
  · rfl

theorem tick_locks (st : QueueState) :
    (∀ r i, st.tick.holdsLock r i ↔ st.holdsLock r i) ∧ (st.settlesOnce → st.tick.settlesOnce) := by
  cases st
  case held c =>
    refine ⟨fun r i => ?_, id⟩
    rw [holdsLock_context (st := .held c) rfl, holdsLock_context (st := (QueueState.held c).tick) rfl]
    rfl
  all_goals exact ⟨fun _ _ => Iff.rfl, id⟩

/-- R55: after a reset no lock is taken. -/
theorem reset_locks {s : State} (queues : s.queues = Vector.replicate 4 .stopped)
    (peers : s.peers = PeerTable.initial s.own) : Locks s := by
  have stopped (q : QueueIx) : s.queue q = .stopped := by
    rw [State.queue, queues]; exact Vector.getElem_replicate ..
  refine ⟨fun p i q => ?_, fun q => ?_⟩
  · rw [stopped]
    refine iff_of_false ?_ (not_holdsLock_of_none rfl p i)
    have initial : s.sendPair p i = SendPair.initial := by
      rw [State.sendPair, State.peer, peers]
      simp [PeerTable.initial, Vector.getElem_set]
      split <;> simp [PeerEntry.initial]
    rw [initial]
    exact nofun
  · rw [stopped]; trivial

theorem work_keeps_locks {s t : State} (w : Work s t) (h : Locks s) : Locks t := by
  have moved {q : QueueIx} {c c' : Context} {x : QueueState} (hc : (s.queue q).context = some c)
      (k : c.Continues c') (hx : x.context = some c')
      (once : (s.queue q).settlesOnce → x.settlesOnce) : Locks (s.setQueue q x) := by
    refine h.congr (.setQueue (fun p i => ?_) once)
    rw [holdsLock_context hc, holdsLock_context hx, k.lock, k.pair]
  cases w
  case hear p e fresh => exact h.congr (hear_locks ..)
  case receive p i r => exact h.congr (setPeer_sameLocks rfl)
  case hint p i x => exact h.congr (setPeer_sameLocks rfl)
  case record p i r lock _ =>
    refine h.congr (.of_queues (fun r' j => ?_) rfl)
    rw [setSendPair_sendPair]
    split
    · next e => rw [lock, e.1, e.2]
    · rfl
  case silence p =>
    unfold State.silenceExpired
    dsimp only
    split
    · have silent : SameLocks s (s.setPeer p { s.peer p with state := .silent, silence := none }) :=
        setPeer_sameLocks rfl
      exact (h.congr silent).congr (.of_eq rfl rfl)
    · exact h
  case mismatch => exact h.congr (.of_eq (by rw [(mismatchFound_engine ..).peers]) (mismatchFound_engine ..).queues)
  case lineEnds => exact h.congr (.of_eq (by rw [(lineEnds_engine s).peers]) (lineEnds_engine s).queues)
  case stuck => exact h.congr (.of_eq (by rw [(enterStuck_engine s).peers]) (enterStuck_engine s).queues)
  case goOn q c c' hq k =>
    rcases hq with hq | hq <;> refine moved (by rw [hq]; rfl) k rfl ?_ <;> rw [hq] <;>
      exact fun once => k.outcome.trans once
  case hold q c c' hq k =>
    refine moved (by rw [hq]; rfl) k rfl ?_
    rw [hq]; exact fun once => k.outcome.trans once
  case stopGoesOn q c c' hq unsettled k =>
    refine moved (by rw [hq]; rfl) k rfl ?_
    intro _ settled
    rw [k.outcome, unsettled] at settled
    cases settled
  case stop q c hq =>
    have same : c.Continues c := ⟨rfl, rfl, rfl, rfl, rfl, rfl, rfl, id⟩
    rcases hq with hq | hq | hq <;> refine moved (by rw [hq]; rfl) same rfl ?_ <;> rw [hq]
    · intro once settled; rw [show c.outcome = none from once] at settled; cases settled
    · intro once settled; rw [show c.outcome = none from once] at settled; cases settled
    · exact fun once _ => once
  case stopWaiting q hq =>
    exact (h.but (not_holdsLock_of_none (isWaiting_context hq))).setQueue (not_holdsLock_of_none rfl) trivial
  case endStep q c c' stopping o hq k => exact h.endStep hq k stopping o
  case arrive q d fuel hq => exact (h.but (not_holdsLock_of_none hq)).arrive d fuel
  case followLink q d hq => exact (h.but (not_holdsLock_of_none hq)).followLink d
  case takeRecord r rest _ => exact Locks.serveLog (h.congr (.of_eq rfl rfl))
  case advance =>
    refine h.congr ⟨fun p i => ?_, fun q => ?_, fun q => ?_⟩
    · rw [State.sendPair, advance_peer]; rfl
    · rw [advance_queue]; exact (tick_locks _).1
    · rw [advance_queue]; exact (tick_locks _).2
  case configure c none =>
    have own : SameLocks s (s.setPeer s.own { s.peer s.own with epoch := some c.epoch }) :=
      setPeer_sameLocks rfl
    exact (h.congr own).congr (.of_eq rfl rfl)
  case softReset x l => exact reset_locks rfl rfl
  case hardReset x l sel rst => exact reset_locks rfl rfl
  all_goals exact h.congr (.of_eq rfl rfl)

/-- Settles O58: every unit of work of a step keeps each lock with the queue whose step holds it. -/
theorem stepsKeepLocksWithTheirQueues : Obligations.StepsKeepLocksWithTheirQueues := by
  unfold Obligations.StepsKeepLocksWithTheirQueues
  intro s t h hstep
  exact step_keeps (fun _ _ => work_keeps_locks) hstep h

end Sys2Proof.Machine
end

section
/-!
PROOFS. Packet memory keeps its form, the lists, counts and buffers their limits, and an announcement is pending
exactly while there are waiters and room (R2, R51, R56, R57, R61, R94, R103, R105, R108, R123, R130, R131, R147,
R159): every unit of work keeps each of the three.
-/

namespace Sys2Proof.Machine

section
variable (s : State)

theorem hear_blocks (p : Station) (e : Epoch) (fresh : Bool) :
    (s.hear p e fresh).inboxes = s.inboxes ∧ (s.hear p e fresh).counters = s.counters ∧
      (s.hear p e fresh).memory = s.memory ∧ (s.hear p e fresh).store = s.store ∧
      (s.hear p e fresh).log = s.log := by
  have heard := hear_receiver s p e fresh
  refine ⟨heard.inboxes, heard.counters, heard.memory, ?_, ?_⟩ <;> unfold State.hear <;> dsimp only <;>
    split <;> split <;> rfl

theorem silenceExpired_blocks (p : Station) :
    (s.silenceExpired p).inboxes = s.inboxes ∧ (s.silenceExpired p).counters = s.counters ∧
      (s.silenceExpired p).memory = s.memory := by
  unfold State.silenceExpired; dsimp only; split <;> exact ⟨rfl, rfl, rfl⟩

theorem enterStuck_receiver : ReceiverKeeps s s.enterStuck := by
  unfold State.enterStuck; split <;> constructor <;> rfl

theorem enterStuck_collisions : s.enterStuck.claim.collisionCount = s.claim.collisionCount := by
  unfold State.enterStuck; split <;> rfl

theorem finishLeave_collisions : s.finishLeave.claim.collisionCount = s.claim.collisionCount := by
  unfold State.finishLeave; split <;> rfl

theorem lineEnds_collisions : s.lineEnds.claim.collisionCount = s.claim.collisionCount := by
  unfold State.lineEnds; dsimp only; split
  · exact finishLeave_collisions _
  · rfl

theorem finishLeave_received : s.finishLeave.trunk.received = s.trunk.received := by
  unfold State.finishLeave; split <;> rfl

theorem lineEnds_received : s.lineEnds.trunk.received = s.trunk.received := by
  unfold State.lineEnds; dsimp only; split
  · exact finishLeave_received _
  · rfl

theorem enterStuck_received : s.enterStuck.trunk.received = s.trunk.received := by
  unfold State.enterStuck; split <;> rfl

theorem mismatchFound_receiver (t : Transmission) :
    (s.mismatchFound t).inboxes = s.inboxes ∧ (s.mismatchFound t).counters = s.counters ∧
      (s.mismatchFound t).memory = s.memory :=
  ⟨(finishLeave_receiver _).inboxes, (finishLeave_receiver _).counters, (finishLeave_receiver _).memory⟩

theorem serveRest_keeps (rest : List CompletionRecord) : EngineKeeps s (s.setLog rest).serveLog :=
  (setLog_keeps ..).trans (serveLog_keeps _)

end

/-! ### Packet memory -/

theorem work_keeps_memoryForm {s t : State} (w : Work s t) (h : MemoryForm s) : MemoryForm t := by
  have same (e : t.memory = s.memory) : MemoryForm t := by unfold MemoryForm; rwa [e]
  cases w
  case memory a l => exact writeOctets_wf h a l
  case hardReset => rfl
  case mismatch => exact same (mismatchFound_receiver ..).2.2
  case lineEnds => exact same (lineEnds_receiver s).memory
  case stuck => exact same (enterStuck_receiver s).memory
  case hear => exact same (hear_blocks ..).2.2.1
  case silence => exact same (silenceExpired_blocks ..).2.2
  case endStep => exact same (endStep_keeps ..).memory
  case arrive => exact same (arrive_keeps ..).memory
  case followLink => exact same (followLink_keeps ..).memory
  case takeRecord => exact same (serveRest_keeps ..).memory
  all_goals exact same rfl

/-! ### Announcements -/

/-- R130, R131: the pending flag of one inbox is as its waiters and its room tell. -/
def Inbox.announced (x : Inbox) : Prop := x.announce = true ↔ x.waiters ≠ 0 ∧ 0 < x.offered

/-- R108: the offered count in its three bounds. -/
theorem offered_pos {x : Inbox} : 0 < x.offered ↔ x.free ≠ [] ∧ x.arrivals.length < 64 := by
  rw [← List.length_pos_iff_ne_nil]
  unfold Inbox.offered arrivalLimit
  omega

/-- R130: where the room does not fall, the rise from 0 makes the announcement pending. -/
theorem announced_rise {x y : Inbox} (h : x.announced) (announce : y.announce = x.announce)
    (waiters : y.waiters = x.waiters) (room : 0 < x.offered → 0 < y.offered) :
    (y.announceRise x).announced := by
  unfold Inbox.announceRise
  split
  · next rise => exact iff_of_true rfl ⟨rise.2.2, rise.2.1⟩
  · next flat =>
    unfold Inbox.announced at h ⊢
    rw [announce, waiters, h]
    refine and_congr_right fun waits => ⟨room, fun now => ?_⟩
    by_contra none
    exact flat ⟨by omega, now, by rwa [waiters]⟩

theorem InboxWork.keepsAnnounced {x y : Inbox} (w : InboxWork x y) (h : x.announced) : y.announced := by
  cases w
  case post b _ _ =>
    refine announced_rise h rfl rfl ?_
    rw [offered_pos, offered_pos]
    exact fun room => ⟨by simp, room.2⟩
  case take =>
    refine announced_rise h rfl rfl ?_
    rw [offered_pos, offered_pos]
    refine fun room => ⟨room.1, ?_⟩
    rw [List.length_drop]
    omega
  case accept a _ =>
    unfold Inbox.accept Inbox.withdraw
    split
    · next empty => exact iff_of_false nofun fun room => absurd empty room.2.ne'
    · next left =>
      have before : 0 < x.offered := by
        have after := offered_pos.mp (Nat.pos_of_ne_zero left)
        rw [offered_pos]
        refine ⟨fun none => after.1 (by simp [none]), ?_⟩
        have := after.2
        simp only [List.length_append, List.length_singleton] at this
        omega
      have now := Nat.pos_of_ne_zero left
      refine h.trans (and_congr_right fun _ => ⟨fun _ => now, fun _ => before⟩)
  case wait p full =>
    refine iff_of_false ?_ fun room => absurd full room.2.ne'
    exact fun pending => absurd full (h.mp pending).2.ne'
  case drops => exact h
  case announced => exact iff_of_false nofun fun room => absurd rfl room.1

theorem initial_announced : Inbox.initial.announced := iff_of_false nofun fun room => absurd rfl room.1

theorem announcements_initial {s : State} (h : s.inboxes = Vector.replicate 8 Inbox.initial) :
    Announcements s := fun i => by
  rw [State.inbox, h, show (Vector.replicate 8 Inbox.initial)[i] = Inbox.initial from
    Vector.getElem_replicate ..]
  exact initial_announced

theorem work_keeps_announcements {s t : State} (w : Work s t) (h : Announcements s) :
    Announcements t := by
  have same (e : t.inboxes = s.inboxes) : Announcements t := by
    unfold Announcements State.inbox; rwa [e]
  cases w
  case inbox i x hx =>
    intro j
    rw [setInbox_inbox]
    split
    · exact hx.keepsAnnounced (h i)
    · exact h j
  case softReset => exact announcements_initial rfl
  case hardReset => exact announcements_initial rfl
  case mismatch => exact same (mismatchFound_receiver ..).1
  case lineEnds => exact same (lineEnds_receiver s).inboxes
  case stuck => exact same (enterStuck_receiver s).inboxes
  case hear => exact same (hear_blocks ..).1
  case silence => exact same (silenceExpired_blocks ..).1
  case endStep => exact same (endStep_keeps ..).inboxes
  case arrive => exact same (arrive_keeps ..).inboxes
  case followLink => exact same (followLink_keeps ..).inboxes
  case takeRecord => exact same (serveRest_keeps ..).inboxes
  all_goals exact same rfl

/-! ### Limits outside the send engine -/

/-- R103, R105: the lists and the drop count of one inbox are within their limits. -/
def Inbox.within (x : Inbox) : Prop :=
  x.free.length ≤ 32 ∧ x.arrivals.length ≤ 64 ∧ (∀ b ∈ x.free, b.inside) ∧ x.drops ≤ 65535

/-- 00_scope.md 4.7: the diagnostic counters are within their limit. -/
def Counters.within (x : Counters) : Prop :=
  x.invalid ≤ 65535 ∧ x.collisions ≤ 65535 ∧ x.noReply ≤ 65535 ∧ x.drops ≤ 65535

/-- The limits of `Capacity` that lie outside the send engine's blocks. -/
structure OuterWithin (s : State) : Prop where
  received : s.trunk.received.length ≤ 521
  inbox : ∀ i : InboxIx, (s.inbox i).within
  counters : s.counters.within
  collisions : s.claim.collisionCount ≤ 8

theorem InboxWork.within {x y : Inbox} (w : InboxWork x y) (h : x.within) : y.within := by
  obtain ⟨free, arrivals, buffers, drops⟩ := h
  have rise (z : Inbox) (hz : z.within) : (z.announceRise x).within := by
    unfold Inbox.announceRise; split <;> exact hz
  cases w
  case post b room inside =>
    refine rise _ ⟨?_, arrivals, ?_, drops⟩
    · rw [List.length_append, List.length_singleton]; omega
    · intro b' hb'
      rcases List.mem_append.mp hb' with hb' | hb'
      · exact buffers b' hb'
      · rw [List.mem_singleton.mp hb']; exact inside
  case take =>
    refine rise _ ⟨free, ?_, buffers, drops⟩
    rw [List.length_drop]; omega
  case accept a room =>
    have accepted : ({ x with free := x.free.drop 1, arrivals := x.arrivals ++ [a] } : Inbox).within := by
      refine ⟨?_, ?_, fun b hb => buffers b (List.mem_of_mem_drop hb), drops⟩
      · rw [List.length_drop]; omega
      · have := (offered_pos.mp (Nat.pos_of_ne_zero room)).2
        rw [List.length_append, List.length_singleton]; omega
    unfold Inbox.accept Inbox.withdraw
    split <;> exact accepted
  case wait => exact ⟨free, arrivals, buffers, drops⟩
  case drops n limit => exact ⟨free, arrivals, buffers, limit⟩
  case announced => exact ⟨free, arrivals, buffers, drops⟩

theorem OuterWithin.congr {s t : State} (h : OuterWithin s) (received : t.trunk.received = s.trunk.received)
    (inboxes : t.inboxes = s.inboxes) (counters : t.counters = s.counters)
    (collisions : t.claim.collisionCount = s.claim.collisionCount) : OuterWithin t := by
  obtain ⟨h1, h2, h3, h4⟩ := h
  refine ⟨by rwa [received], fun i => ?_, by rwa [counters], by rwa [collisions]⟩
  rw [State.inbox, inboxes]; exact h2 i

theorem EngineKeeps.outer {s t : State} (k : EngineKeeps s t) (h : OuterWithin s) : OuterWithin t :=
  h.congr (by rw [k.trunk]) k.inboxes k.counters (by rw [k.claim])

theorem outerWithin_reset {s : State} (inboxes : s.inboxes = Vector.replicate 8 Inbox.initial)
    (received : s.trunk.received = []) (counters : s.counters = Counters.initial)
    (collisions : s.claim.collisionCount = 0) : OuterWithin s := by
  refine ⟨by rw [received]; exact Nat.zero_le _, fun i => ?_, ?_, by rw [collisions]; exact Nat.zero_le _⟩
  · rw [State.inbox, inboxes, show (Vector.replicate 8 Inbox.initial)[i] = Inbox.initial from
      Vector.getElem_replicate ..]
    exact ⟨Nat.zero_le _, Nat.zero_le _, nofun, Nat.zero_le _⟩
  · rw [counters]; exact ⟨Nat.zero_le _, Nat.zero_le _, Nat.zero_le _, Nat.zero_le _⟩

theorem trunkAfterReset_received (l : LineLevel) : (trunkAfterReset l).received = [] := by
  cases l <;> rfl

theorem work_keeps_outer {s t : State} (w : Work s t) (h : OuterWithin s) : OuterWithin t := by
  have kept {a b : Nat} (limit : b ≤ 65535) : a ≤ 65535 ∨ a = b → a ≤ 65535 := by omega
  cases w
  case inbox i x hx =>
    refine ⟨h.received, fun j => ?_, h.counters, h.collisions⟩
    rw [setInbox_inbox]
    split
    · exact hx.within (h.inbox i)
    · exact h.inbox j
  case counters x invalid collisions noReply drops =>
    obtain ⟨h1, h2, h3, h4⟩ := h.counters
    exact ⟨h.received, h.inbox, ⟨kept h1 invalid, kept h2 collisions, kept h3 noReply, kept h4 drops⟩,
      h.collisions⟩
  case exchange x _ received => exact h.congr received rfl rfl rfl
  case keepOctets l => exact ⟨List.length_take_le .., h.inbox, h.counters, h.collisions⟩
  case begins => exact ⟨Nat.zero_le _, h.inbox, h.counters, h.collisions⟩
  case claim x _ _ _ _ count =>
    refine ⟨h.received, h.inbox, h.counters, ?_⟩
    rcases count with count | count
    · exact count
    · exact count.trans_le h.collisions
  case quiet => exact ⟨h.received, h.inbox, h.counters, Nat.zero_le _⟩
  case mismatch =>
    exact h.congr (finishLeave_received _) (mismatchFound_receiver ..).1 (mismatchFound_receiver ..).2.1
      (finishLeave_collisions _)
  case lineEnds =>
    exact h.congr (lineEnds_received s) (lineEnds_receiver s).inboxes (lineEnds_receiver s).counters
      (lineEnds_collisions s)
  case stuck =>
    exact h.congr (enterStuck_received s) (enterStuck_receiver s).inboxes (enterStuck_receiver s).counters
      (enterStuck_collisions s)
  case hear =>
    exact h.congr (by rw [hear_trunk]) (hear_blocks ..).1 (hear_blocks ..).2.1 (by rw [hear_claim])
  case silence =>
    exact h.congr (by rw [silenceExpired_trunk]) (silenceExpired_blocks ..).1
      (silenceExpired_blocks ..).2.1 (by rw [silenceExpired_claim])
  case endStep => exact (endStep_keeps ..).outer h
  case arrive => exact (arrive_keeps ..).outer h
  case followLink => exact (followLink_keeps ..).outer h
  case takeRecord => exact (serveRest_keeps ..).outer h
  case softReset => exact outerWithin_reset rfl (trunkAfterReset_received _) rfl rfl
  case hardReset => exact outerWithin_reset rfl (trunkAfterReset_received _) rfl rfl
  all_goals exact h.congr rfl rfl rfl rfl

/-! ### Limits of the send engine -/

/-- The limits of `Capacity` that lie in the send engine's blocks. -/
structure EngineWithin (s : State) : Prop where
  fanout : ∀ n : ListIx, (s.fanout n).length ≤ 8
  descriptors : ∀ d : DescIx, withinWriteBack (s.desc d).attempts (s.desc d).late (s.desc d).perDest
  contexts : ∀ (q : QueueIx) (c : Context), (s.queue q).context = some c → c.within
  log : s.log.length ≤ 64
  records : ∀ r ∈ s.log, withinWriteBack r.attempts r.late r.perDest
  blind : ∀ (p : Station) (i : InboxIx), (s.sendPair p i).blind ≤ 3

theorem Context.within.freshStep {c : Context} (h : c.within) : c.freshStep.within :=
  ⟨h.1, h.2.1, Nat.zero_le _, h.2.2.2⟩

theorem Context.within.record {c : Context} (h : c.within) (o : Outcome) : (c.record o).within :=
  ⟨h.1, h.2.1, h.2.2.1, List.length_set.trans_le h.2.2.2.1, h.2.2.2.2⟩

theorem Context.within.passedOver {c : Context} (h : c.within) : c.passedOver.within :=
  h.freshStep.record .peerSilent

theorem Context.within.ended {c : Context} (h : c.within) (o : Outcome) : (c.ended o).within :=
  h.record o

/-- R61, R70: what a settled message writes back. -/
theorem Context.within.writeBack {c : Context} (h : c.within) :
    withinWriteBack c.attempts c.late c.perDest := by
  obtain ⟨attempts, late, -, outcomes, -⟩ := h
  refine ⟨attempts, late, ?_⟩
  unfold Context.perDest
  split
  · split
    · exact Nat.zero_le _
    · exact (List.length_zip ▸ Nat.min_le_right ..).trans outcomes
  · exact Nat.zero_le _

/-- R68: a taken message has at most eight destinations. -/
theorem EngineWithin.newContext {s : State} (h : EngineWithin s) (d : DescIx) :
    (s.newContext d).within := by
  have count : ∀ l, s.destinationsOf (s.desc d).host = .list l → l.length ≤ 8 := by
    unfold State.destinationsOf
    intro l hl
    split at hl
    · cases hl
    · cases hl; exact h.fanout _
    · cases hl
  refine ⟨Nat.zero_le _, Nat.zero_le _, Nat.zero_le _, ?_, count⟩
  unfold State.newContext Context.destCount
  dsimp only
  rw [List.length_replicate]
  split
  · exact Nat.le_add_left 1 7
  · next l hl => exact count l hl
  · exact Nat.le_add_left 1 7

section
variable {s t : State} {q : QueueIx}

theorem EngineWithin.congr (h : EngineWithin s) (store : t.store = s.store) (queues : t.queues = s.queues)
    (log : t.log = s.log) (pairs : ∀ p i, (t.sendPair p i).blind = (s.sendPair p i).blind) :
    EngineWithin t where
  fanout n := by rw [State.fanout, store]; exact h.fanout n
  descriptors d := by rw [State.desc, store]; exact h.descriptors d
  contexts r c hc := h.contexts r c (by rwa [State.queue, queues] at hc)
  log := by rw [log]; exact h.log
  records := by rw [log]; exact h.records
  blind p i := by rw [pairs]; exact h.blind p i

theorem EngineSame.within (k : EngineSame s t) (log : t.log = s.log) (h : EngineWithin s) :
    EngineWithin t :=
  h.congr k.store k.queues log fun p i => by simp only [State.sendPair, State.peer, k.peers]

theorem EngineWithin.setQueue (h : EngineWithin s) {x : QueueState}
    (hx : ∀ c, x.context = some c → c.within) : EngineWithin (s.setQueue q x) where
  fanout := h.fanout
  descriptors := h.descriptors
  contexts r c hc := by
    rw [setQueue_queue] at hc
    split at hc
    · exact hx c hc
    · exact h.contexts r c hc
  log := h.log
  records := h.records
  blind := h.blind

/-- A queue takes a context that is within its limits. -/
theorem EngineWithin.setContext (h : EngineWithin s) {x : QueueState} {c : Context}
    (hx : x.context = some c) (hc : c.within) : EngineWithin (s.setQueue q x) :=
  h.setQueue fun c' hc' => by rw [hx] at hc'; cases hc'; exact hc

theorem EngineWithin.setIdle (h : EngineWithin s) {x : QueueState} (hx : x.context = none) :
    EngineWithin (s.setQueue q x) :=
  h.setQueue fun c hc => by rw [hx] at hc; cases hc

theorem EngineWithin.setSendPair (h : EngineWithin s) {p : Station} {i : InboxIx} {r : SendPair}
    (hr : r.blind ≤ 3) : EngineWithin (s.setSendPair p i r) where
  fanout := h.fanout
  descriptors := h.descriptors
  contexts := h.contexts
  log := h.log
  records := h.records
  blind r' j := by
    rw [setSendPair_sendPair]
    split
    · exact hr
    · exact h.blind r' j

/-- One entry of the peer table is written, its blind counts kept or set to 0. -/
theorem EngineWithin.setPeer (h : EngineWithin s) {p : Station} {x : PeerEntry}
    (hx : ∀ i : InboxIx, (x.send[i]).blind ≤ 3) : EngineWithin (s.setPeer p x) where
  fanout := h.fanout
  descriptors := h.descriptors
  contexts := h.contexts
  log := h.log
  records := h.records
  blind r i := by
    rw [State.sendPair, setPeer_peer]
    split
    · exact hx i
    · exact h.blind r i

theorem EngineWithin.setDesc (h : EngineWithin s) {d : DescIx} {x : Descriptor}
    (hx : withinWriteBack x.attempts x.late x.perDest) : EngineWithin (s.setDesc d x) where
  fanout := h.fanout
  descriptors e := by
    rw [setDesc_desc]
    split
    · exact hx
    · exact h.descriptors e
  contexts := h.contexts
  log := h.log
  records := h.records
  blind := h.blind

theorem EngineWithin.appendRecord (h : EngineWithin s) {r : CompletionRecord} (room : s.log.length < 64)
    (hr : withinWriteBack r.attempts r.late r.perDest) : EngineWithin (s.appendRecord r) where
  fanout := h.fanout
  descriptors := h.descriptors
  contexts := h.contexts
  log := by
    change (s.log ++ [r]).length ≤ 64
    rw [List.length_append, List.length_singleton]
    omega
  records r' hr' := by
    rcases List.mem_append.mp hr' with hr' | hr'
    · exact h.records r' hr'
    · rw [List.mem_singleton.mp hr']; exact hr
  blind := h.blind

/-! #### Steps -/

theorem EngineWithin.readHint (h : EngineWithin s) {c : Context} (hc : c.within) (p : Station)
    (i : InboxIx) : EngineWithin (s.readHint q c p i) := by
  unfold State.readHint
  split
  · exact h.setContext (c := { c with hold := some s.holdTicks }) rfl hc
  · exact h.setContext (c := c) rfl hc

theorem EngineWithin.setLock (h : EngineWithin s) (p : Station) (i : InboxIx) (l : Option QueueIx) :
    EngineWithin (s.setLock p i l) := h.setSendPair (h.blind p i)

theorem EngineWithin.releaseLock (h : EngineWithin s) (p : Station) (i : InboxIx) :
    EngineWithin (s.releaseLock q p i) := by
  unfold State.releaseLock
  split
  · next r c hr =>
    have awaits := (awaits_running (firstAwaiting_awaits s hr).2).1
    have within := h.contexts r c (by rw [awaits]; rfl)
    exact (h.setLock p i (some r)).readHint (c := { c with lock := .taken }) within p i
  · exact h.setLock p i none

theorem EngineWithin.beginStep (h : EngineWithin s) {c : Context} (hc : c.within) :
    EngineWithin (s.beginStep q c) := by
  unfold State.beginStep State.takeLock
  split
  · next p i _ =>
    split
    · exact (h.setLock p i (some q)).readHint (c := { c with lock := .taken }) hc p i
    · exact h.setContext (c := { c with lock := .awaited }) rfl hc
  · exact h.setContext (c := c) rfl hc

theorem EngineWithin.beginSteps (h : EngineWithin s) {c : Context} (hc : c.within) (left : Nat) :
    (∀ t, s.beginSteps q c left = .underWay t → EngineWithin t) ∧
      ∀ c' t, s.beginSteps q c left = .decided c' t → c'.within := by
  induction left generalizing c with
  | zero =>
    rw [beginSteps_zero]
    split
    · refine ⟨by simp, fun c' t ht => ?_⟩
      cases ht; exact hc.freshStep.record .peerSilent
    · refine ⟨fun t ht => ?_, by simp⟩
      cases ht; exact h.beginStep hc.freshStep
  | succ n ih =>
    rw [beginSteps_succ]
    split
    · exact ih hc.passedOver
    · refine ⟨fun t ht => ?_, by simp⟩
      cases ht; exact h.beginStep hc.freshStep

theorem EngineWithin.raiseBlind (h : EngineWithin s) (c : Context) : EngineWithin (s.raiseBlind c) := by
  unfold State.raiseBlind
  split
  · split
    · exact h.setSendPair (Nat.min_le_left ..)
    · exact h
  · exact h

theorem EngineWithin.dropLock (h : EngineWithin s) (c : Context) : EngineWithin (s.dropLock q c) := by
  unfold State.dropLock
  split
  · split
    · exact h.releaseLock ..
    · exact h
  · exact h

/-! #### Settlement -/

theorem EngineWithin.writeBack (h : EngineWithin s) {c : Context} (hc : c.within) :
    EngineWithin (s.writeBack c) := h.setDesc hc.writeBack

theorem EngineWithin.handBack (h : EngineWithin s) {c : Context} (hc : c.within)
    (room : s.mustWait q c = false) : EngineWithin (s.handBack q c) := by
  unfold State.handBack
  split
  · next required =>
    have log : s.log.length < 64 := by
      rw [State.mustWait, required, Bool.true_and, decide_eq_false_iff_not] at room
      exact Nat.not_le.mp room
    exact (h.writeBack hc).appendRecord (r := c.completion q) log hc.writeBack
  · exact h.writeBack hc

theorem EngineWithin.enterWaiting (h : EngineWithin s) {x : QueueState} (none : x.context = none) :
    EngineWithin (s.enterWaiting q x) := by
  have waits : EngineWithin (s.setQueue q x) := h.setIdle none
  unfold State.enterWaiting
  split
  · exact waits
  · exact waits.congr rfl rfl rfl fun _ _ => rfl

theorem EngineWithin.takeDescriptor (h : EngineWithin s) (d : DescIx) :
    (∀ t, s.takeDescriptor q d = .underWay t → EngineWithin t) ∧
      ∀ c t, s.takeDescriptor q d = .decided c t → c.within ∧ EngineWithin t := by
  have context := h.newContext d
  have taken : EngineWithin ((s.setDesc d { s.desc d with holder := some q }).setQueue q
      (.running (s.newContext d))) :=
    (h.setDesc (x := { s.desc d with holder := some q }) (h.descriptors d)).setContext rfl context
  unfold State.takeDescriptor
  dsimp only
  split
  · obtain ⟨underWay, decided⟩ := taken.beginSteps (q := q) context (s.newContext d).left
    refine ⟨underWay, fun c t ht => ⟨decided c t ht, ?_⟩⟩
    rw [(beginSteps_decided ht).1]
    exact taken
  · refine ⟨by simp, fun c t ht => ?_⟩
    cases ht
    exact ⟨context, taken⟩

theorem EngineWithin.arrive (h : EngineWithin s) (d : DescIx) (fuel : Nat) :
    EngineWithin (s.arrive q d fuel) := by
  induction fuel generalizing s d with
  | zero => exact h.enterWaiting rfl
  | succ n ih =>
    obtain ⟨underWay, decided⟩ := h.takeDescriptor (q := q) d
    unfold State.arrive
    split
    · split
      · next t ht => exact underWay t ht
      · next c t ht =>
        obtain ⟨hc, hs⟩ := decided c t ht
        split
        · exact hs.setContext (c := c.settled) rfl hc
        · next room =>
          have handed := hs.handBack (q := q) hc (by simpa using room)
          dsimp only
          split
          · exact handed.enterWaiting rfl
          · exact ih handed _
    · exact h.enterWaiting rfl

theorem EngineWithin.followLink (h : EngineWithin s) (d : DescIx) : EngineWithin (s.followLink q d) := by
  unfold State.followLink
  split
  · exact h.enterWaiting rfl
  · exact h.arrive ..

theorem EngineWithin.settle (h : EngineWithin s) {c : Context} (hc : c.within) (stopping : Bool) :
    EngineWithin (s.settle q c stopping) := by
  unfold State.settle
  split
  · refine h.setContext (c := c.settled) ?_ hc
    split <;> rfl
  · next room =>
    have handed := h.handBack (q := q) hc (by simpa using room)
    dsimp only
    split
    · exact handed.setIdle rfl
    · exact handed.followLink _

theorem EngineWithin.endStep (h : EngineWithin s) {c : Context} (hc : c.within) (stopping : Bool)
    (o : Outcome) : EngineWithin (s.endStep q c stopping o) := by
  have dropped := (h.raiseBlind c).dropLock (q := q) c
  unfold State.endStep
  dsimp only
  split
  · exact dropped.settle (hc.ended o) _
  · obtain ⟨underWay, decided⟩ := dropped.beginSteps (q := q)
      (c := { c.ended o with current := (c.ended o).current + 1 }) (hc.ended o) ((c.ended o).left - 1)
    split
    · next t ht => exact underWay t ht
    · next c' t ht =>
      have still := (beginSteps_decided ht).1
      subst still
      exact dropped.settle (decided _ _ ht) _

theorem EngineWithin.serveLog (h : EngineWithin s) (room : s.log.length < 64) :
    EngineWithin s.serveLog := by
  have served {r : QueueIx} {c : Context} (hc : (s.queue r).context = some c) :
      EngineWithin ((s.writeBack c).appendRecord (c.completion r)) := by
    have within := h.contexts r c hc
    exact (h.writeBack within).appendRecord (r := c.completion r) room within.writeBack
  unfold State.serveLog
  split
  · unfold State.serveQueue
    split
    case h_1 hq => exact (served (by rw [hq]; rfl)).followLink _
    case h_2 hq =>
      split
      · exact (served (by rw [hq]; rfl)).setIdle rfl
      · exact h
    all_goals exact h
  · exact h

end

/-! #### Units of work -/

theorem heard_blind (e : PeerEntry) (epoch : Epoch) (fresh : Bool) (i : InboxIx)
    (h : (e.send[i]).blind ≤ 3) : (((e.heard epoch fresh).send)[i]).blind ≤ 3 := by
  unfold PeerEntry.heard
  dsimp only
  split
  · simp [PeerEntry.restart]
  · exact h

theorem peerRestarted_within {st : QueueState} {c : Context} (p : Station) (e : PeerEntry)
    (h : ∀ c, st.context = some c → c.within) (hc : (st.peerRestarted p e).context = some c) :
    c.within := by
  have kept (c : Context) (hw : c.within) : (c.peerRestarted p e).within := by
    unfold Context.peerRestarted; split <;> exact hw
  cases st with
  | running c' => cases hc; exact kept _ (h _ rfl)
  | held c' => cases hc; exact kept _ (h _ rfl)
  | stopping c' => cases hc; exact kept _ (h _ rfl)
  | blockedLog c' => cases hc; exact h _ rfl
  | stopped => cases hc
  | waitingAt => cases hc
  | waitingAfter => cases hc

theorem tick_within {st : QueueState} {c : Context} (h : ∀ c, st.context = some c → c.within)
    (hc : st.tick.context = some c) : c.within := by
  cases st with
  | held c' => cases hc; exact (h _ rfl : c'.within)
  | running c' => exact h _ hc
  | stopping c' => exact h _ hc
  | blockedLog c' => exact h _ hc
  | stopped => cases hc
  | waitingAt => cases hc
  | waitingAfter => cases hc

theorem EngineWithin.hear {s : State} (h : EngineWithin s) (p : Station) (e : Epoch) (fresh : Bool) :
    EngineWithin (s.hear p e fresh) where
  fanout := by unfold State.fanout; rw [(hear_blocks s p e fresh).2.2.2.1]; exact h.fanout
  descriptors := by unfold State.desc; rw [(hear_blocks s p e fresh).2.2.2.1]; exact h.descriptors
  contexts q c hc := by
    rw [hear_queue] at hc
    split at hc
    · exact peerRestarted_within p _ (h.contexts q) hc
    · exact h.contexts q c hc
  log := by rw [(hear_blocks s p e fresh).2.2.2.2]; exact h.log
  records := by rw [(hear_blocks s p e fresh).2.2.2.2]; exact h.records
  blind r i := by
    rw [State.sendPair, hear_peer]
    split
    · exact heard_blind _ _ _ i (h.blind p i)
    · exact h.blind r i

/-- After a reset the engine's lists and counts are empty. -/
theorem reset_engineWithin {s : State} (fanout : ∀ n : ListIx, (s.fanout n).length ≤ 8)
    (descriptors : ∀ d, withinWriteBack (s.desc d).attempts (s.desc d).late (s.desc d).perDest)
    (queues : s.queues = Vector.replicate 4 .stopped) (log : s.log = [])
    (peers : s.peers = PeerTable.initial s.own) : EngineWithin s where
  fanout := fanout
  descriptors := descriptors
  contexts q c hc := by
    rw [State.queue, queues, show (Vector.replicate 4 QueueState.stopped)[q] = .stopped from
      Vector.getElem_replicate ..] at hc
    cases hc
  log := by rw [log]; exact Nat.zero_le _
  records := by rw [log]; exact nofun
  blind p i := by
    have initial : s.sendPair p i = SendPair.initial := by
      rw [State.sendPair, State.peer, peers]
      simp [PeerTable.initial, Vector.getElem_set]
      split <;> simp [PeerEntry.initial]
    rw [initial]
    exact Nat.zero_le _

theorem mismatchFound_log (s : State) (t : Transmission) : (s.mismatchFound t).log = s.log := by
  unfold State.mismatchFound State.finishLeave; split <;> rfl

theorem lineEnds_log (s : State) : s.lineEnds.log = s.log := by
  unfold State.lineEnds State.finishLeave; dsimp only; split
  · split <;> rfl
  · rfl

theorem enterStuck_log (s : State) : s.enterStuck.log = s.log := by
  unfold State.enterStuck; split <;> rfl

theorem softReset_lists (s : State) (x : Straps) (l : LineLevel) :
    (s.softReset x l).store.lists = s.store.lists := by
  rw [State.softReset, setStore_store]

theorem work_keeps_engineWithin {s t : State} (w : Work s t) (h : EngineWithin s) : EngineWithin t := by
  cases w
  case hear p e fresh => exact h.hear p e fresh
  case receive p i r => exact h.setPeer (h.blind p)
  case hint p i x => exact h.setPeer (h.blind p)
  case record p i r _ blind => exact h.setSendPair (blind (h.blind p i))
  case silence p =>
    unfold State.silenceExpired
    dsimp only
    split
    · exact (h.setPeer (x := { s.peer p with state := .silent, silence := none }) (h.blind p)).congr
        rfl rfl rfl fun _ _ => rfl
    · exact h
  case mismatch x _ => exact (mismatchFound_engine s x).within (mismatchFound_log s x) h
  case lineEnds => exact (lineEnds_engine s).within (lineEnds_log s) h
  case stuck => exact (enterStuck_engine s).within (enterStuck_log s) h
  case goOn q c c' hq k =>
    have within := h.contexts q c (by rcases hq with hq | hq <;> rw [hq] <;> rfl)
    exact h.setContext rfl (k.within within)
  case hold q c c' hq k => exact h.setContext rfl (k.within (h.contexts q c (by rw [hq]; rfl)))
  case stopGoesOn q c c' hq _ k => exact h.setContext rfl (k.within (h.contexts q c (by rw [hq]; rfl)))
  case stop q c hq =>
    have within := h.contexts q c (by rcases hq with hq | hq | hq <;> rw [hq] <;> rfl)
    exact h.setContext rfl within
  case stopWaiting => exact h.setIdle rfl
  case endStep q c c' stopping o hq k =>
    exact h.endStep (k.within (h.contexts q c (delivers_context hq))) stopping o
  case arrive q d fuel _ => exact h.arrive d fuel
  case followLink q d _ => exact h.followLink d
  case takeRecord r rest hlog =>
    have log := h.log
    rw [hlog, List.length_cons] at log
    refine EngineWithin.serveLog ⟨h.fanout, h.descriptors, h.contexts, ?_, ?_, h.blind⟩ ?_
    · change rest.length ≤ 64; omega
    · exact fun r' hr' => h.records r' (by rw [hlog]; exact List.mem_cons_of_mem _ hr')
    · change rest.length < 64; omega
  case fill => exact h.setDesc ⟨Nat.zero_le _, Nat.zero_le _, Nat.zero_le _⟩
  case disarm d _ => exact h.setDesc (h.descriptors d)
  case list n l hl =>
    refine ⟨fun m => ?_, h.descriptors, h.contexts, h.log, h.records, h.blind⟩
    rw [setFanout_fanout]
    split
    · exact hl
    · exact h.fanout m
  case advance =>
    refine ⟨h.fanout, h.descriptors, fun q c hc => ?_, h.log, h.records, fun p i => ?_⟩
    · rw [advance_queue] at hc; exact tick_within (h.contexts q) hc
    · rw [State.sendPair, advance_peer]; exact h.blind p i
  case configure c _ =>
    exact (h.setPeer (p := s.own) (x := { s.peer s.own with epoch := some c.epoch }) (h.blind s.own)).congr
      rfl rfl rfl fun _ _ => rfl
  case softReset x l =>
    refine reset_engineWithin (fun n => ?_) (fun d => ?_) rfl rfl rfl
    · rw [State.fanout, softReset_lists]; exact h.fanout n
    · rw [softReset_desc]; exact h.descriptors d
  case hardReset x l sel rst =>
    refine reset_engineWithin (fun n => ?_) (fun d => ?_) rfl rfl rfl
    · rw [State.fanout]
      change ((Vector.replicate 16 ([] : List Station))[n]).length ≤ 8
      rw [show (Vector.replicate 16 ([] : List Station))[n] = [] from Vector.getElem_replicate ..]
      exact Nat.zero_le _
    · rw [hardReset_desc]
      exact ⟨Nat.zero_le _, Nat.zero_le _, Nat.zero_le _⟩
  all_goals exact h.congr rfl rfl rfl fun _ _ => rfl

/-! ### The three invariants together -/

theorem capacity_iff {s : State} : Capacity s ↔ OuterWithin s ∧ EngineWithin s := by
  constructor
  · intro h
    exact ⟨⟨h.received, fun i => ⟨h.free i, h.arrivals i, h.buffers i, h.drops i⟩, h.counters, h.collisions⟩,
      ⟨h.fanout, h.descriptors, h.contexts, h.log, h.records, h.blind⟩⟩
  · rintro ⟨outer, engine⟩
    exact
      { received := outer.received
        fanout := engine.fanout
        descriptors := engine.descriptors
        contexts := engine.contexts
        free := fun i => (outer.inbox i).1
        arrivals := fun i => (outer.inbox i).2.1
        log := engine.log
        records := engine.records
        buffers := fun i => (outer.inbox i).2.2.1
        drops := fun i => (outer.inbox i).2.2.2
        counters := outer.counters
        collisions := outer.collisions
        blind := engine.blind }

theorem work_keeps_capacity {s t : State} (w : Work s t) (h : Capacity s) : Capacity t := by
  obtain ⟨outer, engine⟩ := capacity_iff.mp h
  exact capacity_iff.mpr ⟨work_keeps_outer w outer, work_keeps_engineWithin w engine⟩

/-- Settles O57: every unit of work of a step keeps each of the three invariants. -/
theorem stepsKeepMemorySizesAndAnnouncements : Obligations.StepsKeepMemorySizesAndAnnouncements := by
  unfold Obligations.StepsKeepMemorySizesAndAnnouncements
  intro s t hstep
  exact ⟨fun h => step_keeps (fun _ _ => work_keeps_memoryForm) hstep h,
    fun h => step_keeps (fun _ _ => work_keeps_capacity) hstep h,
    fun h => step_keeps (fun _ _ => work_keeps_announcements) hstep h⟩

end Sys2Proof.Machine
end

section
/-!
PROOFS. The resets, and the host commands on the station and on packet memory: what the answer of each command
comes to once its octets have been clocked in.
-/

namespace Sys2Proof.Machine

/-! ### Index fields -/

theorem octet_toNat {n : Nat} (h : n < 256) : (octet n).toNat = n := by
  rw [octet, BitVec.toNat_ofNat]; exact Nat.mod_eq_of_lt h

theorem octet_of_toNat (o : Octet) : octet o.toNat = o := BitVec.eq_of_toNat_eq (octet_toNat o.isLt)

/-- R180: an index in range is read back. -/
theorem indexField_octet {n : Nat} (hn : n ≤ 256) (i : Fin n) : indexField n (octet i.val) = some i := by
  have value : (octet i.val).toNat = i.val := octet_toNat (Nat.lt_of_lt_of_le i.isLt hn)
  rw [indexField, dif_pos (by rw [value]; exact i.isLt)]
  exact congrArg some (Fin.ext value)

theorem indexField_desc (d : DescIx) : indexField 128 (octet d.val) = some d := indexField_octet (by decide) d

theorem indexField_station (p : Station) : indexField 32 (octet p.val) = some p := indexField_octet (by decide) p

theorem indexField_inbox (i : InboxIx) : indexField 8 (octet i.val) = some i := indexField_octet (by decide) i

theorem indexField_queue (q : QueueIx) : indexField 4 (octet q.val) = some q := indexField_octet (by decide) q

/-- R180: an index beyond its range is refused. -/
theorem indexField_beyond {n : Nat} {o : Octet} (h : n ≤ o.toNat) : indexField n o = none :=
  dif_neg (Nat.not_lt.mpr h)

theorem indexField_some {n : Nat} {o : Octet} (h : o.toNat < n) : indexField n o = some ⟨o.toNat, h⟩ :=
  dif_pos h

theorem addressField_beyond {a : Half} (h : 32768 ≤ a.toNat) : addressField a = none :=
  dif_neg (Nat.not_lt.mpr h)

theorem addressField_some {a : Half} (h : a.toNat < 32768) : addressField a = some ⟨a.toNat, h⟩ := dif_pos h

theorem octet_bit (b : Bool) : octet (bit b) = if b then 1 else 0 := by cases b <;> rfl

/-! ### Answers -/

section
variable {s t : State} {c : Instr} (hl : s.listens) (hc : isHost c = true) (hw : c.wellFormed = true)
  (hs : anyTime c = true ∨ s.settings.isSome = true)
include hl hc hw hs

/-- A command that is refused, or answered EMPTY, changes nothing. -/
theorem exec_refused {st : Status} (h : s.perform c = s.refuse st) (hst : st ≠ .done) :
    exec c s = .next (s.answered st.code []) := by
  rw [exec_performed hl hc hw hs, h, respond_refuse s hst]

theorem exec_done (h : s.perform c = t.done) : exec c s = .next (t.answered 0x00 []) := by
  rw [exec_performed hl hc hw hs, h, respond_done]

theorem exec_data {data : List Octet} (h : s.perform c = { state := t, status := .done, data }) :
    exec c s = .next (t.answered 0x00 data) := by
  rw [exec_performed hl hc hw hs, h, respond_data]

end

/-! ### Every command completes -/

/-- No command that the port takes changes the commands that wait. -/
theorem perform_pending (s : State) (c : Instr) : (s.perform c).state.pending = s.pending := by
  cases c
  case queueStart queue index =>
    simp only [State.perform, State.queueStartAnswer]
    split
    · split
      · exact (arrive_keeps ..).pending
      · rfl
    · rfl
  case queueResume queue =>
    simp only [State.perform, State.queueResumeAnswer]
    split
    · rfl
    · split
      · exact (arrive_keeps ..).pending
      · exact (followLink_keeps ..).pending
      all_goals rfl
  case queueStop queue =>
    simp only [State.perform, State.queueStopAnswer]
    split
    · exact (stopQueue_keeps ..).pending
    · rfl
  case logTake =>
    simp only [State.perform, State.logTakeAnswer]
    split
    · rfl
    · exact (serveRest_keeps ..).pending
  case configure params =>
    simp only [State.perform, State.configureAnswer]
    split
    · rfl
    · split <;> rfl
  case leave =>
    simp only [State.perform, State.leaveAnswer]
    split
    · split <;> rfl
    · rfl
  case join => simp only [State.perform, State.joinAnswer]; split <;> rfl
  case memWrite => simp only [State.perform, State.memWriteAnswer]; split <;> rfl
  case memRead => simp only [State.perform, State.memReadAnswer]; split <;> rfl
  case descWrite =>
    simp only [State.perform, State.descWriteAnswer]
    split
    · split <;> rfl
    · rfl
  case descRead => simp only [State.perform, State.descReadAnswer]; split <;> rfl
  case descDisarm =>
    simp only [State.perform, State.descDisarmAnswer]
    split
    · rfl
    · split
      · rfl
      · split <;> rfl
  case listWrite => simp only [State.perform, State.listWriteAnswer]; split <;> rfl
  case queueRead => simp only [State.perform, State.queueReadAnswer]; split <;> rfl
  case inboxPost =>
    simp only [State.perform, State.inboxPostAnswer]
    split
    · split
      · split
        · rfl
        · split <;> rfl
      · rfl
    · rfl
  case inboxTake =>
    simp only [State.perform, State.inboxTakeAnswer]
    split
    · rfl
    · split <;> rfl
  case inboxRead => simp only [State.perform, State.inboxReadAnswer]; split <;> rfl
  case noticeTake => simp only [State.perform, State.noticeTakeAnswer]; split <;> rfl
  case peerRead => simp only [State.perform, State.peerReadAnswer]; split <;> rfl
  all_goals rfl

/-- Settles O2: a command is an event, a hard reset, an edge of SEL, or the host's, and each of these completes. -/
theorem everyCommandCompletes : Obligations.EveryCommandCompletes := by
  unfold Obligations.EveryCommandCompletes
  intro c s
  rcases instr_cases c with hc | hc | ⟨a, r, l, v, w, rfl⟩ | rfl | rfl
  · obtain ⟨t, ht, k⟩ := exec_event hc s
    exact ⟨t, ht, k.pending⟩
  · exact exec_host_induct (P := fun t => t.pending = s.pending) hc s (fun _ _ h => h) rfl
      fun x _ _ => perform_pending s x
  · exact ⟨_, rfl, rfl⟩
  · obtain ⟨p, hp⟩ := execSelFall_port s
    exact ⟨_, hp, rfl⟩
  · exact ⟨_, rfl, rfl⟩

/-! ### Refusal by code and state -/

theorem anyTime_false_of_code {c : Instr} {code : Octet} (h : commandCode c = some code) (ident : code ≠ 0x01)
    (configure : code ≠ 0x02) (restart : code ≠ 0x03) : anyTime c = false := by
  cases c
  case ident => exact absurd (Option.some.inj h).symm ident
  case configure => exact absurd (Option.some.inj h).symm configure
  case restart => exact absurd (Option.some.inj h).symm restart
  case unknownCommand => cases h
  all_goals rfl

/-- Table 11-2: every defined code is the code of a command. -/
theorem exists_commandCode {code : Octet} (h : code ∈ definedCodes) : ∃ c, commandCode c = some code := by
  have codes : definedCodes = [.ident, .configure [], .restart 0 0 .mark, .leave, .join, .memWrite 0 0 [],
      .memRead 0 0, .descWrite 0 0 0 0 0 0 0 0, .descRead 0, .descDisarm 0, .listWrite 0 0 [],
      .queueStart 0 0, .queueResume 0, .queueStop 0, .queueRead 0, .inboxPost 0 0 0, .inboxTake 0,
      .inboxRead 0, .noticeTake 0, .logTake, .peerRead 0, .eventsRead, .eventsClear 0, .maskWrite 0,
      .countersTake].filterMap commandCode := rfl
  rw [codes, List.mem_filterMap] at h
  obtain ⟨c, -, hc⟩ := h
  exact ⟨c, hc⟩

/-- Settles O7: the command is taken whole, and its status is decided before its rule is reached. -/
theorem commandsAreRefusedByCodeAndState : Obligations.CommandsAreRefusedByCodeAndState := by
  unfold Obligations.CommandsAreRefusedByCodeAndState
  refine ⟨fun c s hc hw hl hn => ?_, fun code s undefined hl => ?_⟩
  · obtain ⟨code, hcode, ident, configure, restart⟩ := hc
    have host : isHost c = true := by
      unfold isHost
      split
      · rfl
      · rw [hcode]; rfl
    exact exec_unconfigured hl host hw (anyTime_false_of_code hcode ident configure restart) hn
  · have hw : (Instr.unknownCommand code).wellFormed = true := by
      have absent : code ∉ definedCodes := fun h => by
        obtain ⟨c, hc⟩ := exists_commandCode h
        exact undefined c hc
      simpa [Instr.wellFormed] using absent
    exact exec_refused hl rfl hw (.inl rfl) (st := .unknownCommand) rfl (by decide)

/-! ### Resets -/

theorem trunkAfterReset_eq (line : LineLevel) : trunkAfterReset line =
    { line := if line = .mark then .idle else .activeRx, unseenStart := decide (line = .space),
      received := [], receivedCount := 0, transmission := none, reply := none, watch := none } := by
  cases line <;> rfl

theorem peerTable_initial_eq (a : Station) : PeerTable.initial a =
    { entries := Vector.ofFn fun p : Fin 32 =>
        { state := if p = a then .self else .unknown, epoch := none, silence := none,
          send := Vector.replicate 8 { anchor := 15, blind := 0, lock := none },
          hints := Vector.replicate 8 none, receive := Vector.replicate 8 none },
      presenceTimer := none, presenceDue := false } := by
  have entries : (Vector.replicate 32 (PeerEntry.initial .unknown)).set a.val (PeerEntry.initial .self) a.isLt =
      Vector.ofFn fun p : Fin 32 => PeerEntry.initial (if p = a then .self else .unknown) := by
    refine Vector.ext fun p hp => ?_
    rw [Vector.getElem_set, Vector.getElem_ofFn, Vector.getElem_replicate]
    by_cases own : a.val = p
    · rw [if_pos own, if_pos (Fin.ext own.symm)]
    · rw [if_neg own, if_neg fun h => own (congrArg Fin.val h).symm]
  rw [PeerTable.initial, entries]
  rfl

/-- Settles O8. -/
theorem hardResetRestoresEveryBlock : Obligations.HardResetRestoresEveryBlock := by
  unfold Obligations.HardResetRestoresEveryBlock
  refine ⟨fun a r line sel rst s => ?_, fun s low high => ?_⟩
  · rw [← trunkAfterReset_eq, ← peerTable_initial_eq]
    rfl
  · cases port : s.port.state <;> simp only [exec, execSelFall, high, low, port]

section
variable (s : State) (status : Octet) (data : List Octet)
@[simp] theorem answered_store : (s.answered status data).store = s.store := rfl
@[simp] theorem answered_desc (d : DescIx) : (s.answered status data).desc d = s.desc d := rfl
end

/-- Settles O9. -/
theorem restartKeepsMemoryDescriptorsAndLists : Obligations.RestartKeepsMemoryDescriptorsAndLists := by
  unfold Obligations.RestartKeepsMemoryDescriptorsAndLists
  intro a r line s hl
  have taken : exec (.restart a r line) s =
      .next ((s.softReset { address := a, rate := r } line).answered 0x00 []) :=
    exec_done hl rfl rfl (.inl rfl) rfl
  refine ⟨_, _, taken, rfl, rfl, ?_, ?_, rfl, rfl⟩
  · rw [answered_store, softReset_lists]
  · intro d
    rw [answered_desc, softReset_desc]
    rfl

theorem hardReset_fanout (s : State) (x : Straps) (l : LineLevel) (sel rst : PinLevel) (n : ListIx) :
    (s.hardReset x l sel rst).fanout n = [] := Vector.getElem_replicate ..

/-- The reset state, as a hard reset of any state with no command waiting. -/
theorem reset_eq_hardReset (s : State) :
    State.reset.setPending s.pending =
      s.hardReset { address := Config.powerOnAddress, rate := Config.powerOnRate } .mark .high .high := rfl

/-- What holds in a state whatever it was before a hard reset holds after one. -/
theorem reset_of_hardReset {P : State → Prop}
    (h : ∀ (s : State) (x : Straps) (l : LineLevel) (sel rst : PinLevel), P (s.hardReset x l sel rst)) :
    P State.reset := h State.reset _ .mark .high .high

/-- Settles O10. -/
theorem resetStateIsAHardReset : Obligations.ResetStateIsAHardReset := by
  unfold Obligations.ResetStateIsAHardReset
  have engine : EngineWithin State.reset := reset_of_hardReset fun s x l sel rst =>
    reset_engineWithin (fun n => by rw [hardReset_fanout]; exact Nat.zero_le _)
      (fun d => by rw [hardReset_desc]; exact ⟨Nat.zero_le _, Nat.zero_le _, Nat.zero_le _⟩) rfl rfl rfl
  have outer : OuterWithin State.reset := outerWithin_reset rfl rfl rfl rfl
  have holders : Holders State.reset := reset_of_hardReset fun s x l sel rst =>
    reset_holders rfl fun d => by rw [hardReset_desc]; rfl
  have clear (n : Nat) : State.reset.eventFlag n = false := by
    by_cases hn : n < 21
    · revert hn; revert n; decide
    · exact eventFlag_beyond _ (Nat.not_lt.mp hn)
  exact ⟨fun s => congrArg Host.Outcome.next (reset_eq_hardReset s).symm, rfl, rfl, clear, rfl,
    capacity_iff.mpr ⟨outer, engine⟩,
    announcements_initial rfl, reset_locks rfl rfl, holders, afterReset_timers rfl rfl⟩

end Sys2Proof.Machine
end

section
/-!
PROOFS. Packet memory, descriptors, lists, inboxes, notice words, events and counters: the host commands that act
on one store of the part (R56, R59 to R61, R105, R107, R119, R141, R153, R154, R168, R179).
-/

namespace Sys2Proof.Machine

/-! ### Packet memory -/

theorem transferField_some {address count : Half} (low : 1 ≤ count.toNat) (high : count.toNat ≤ 512)
    (fits : address.toNat + count.toNat ≤ 32768) :
    transferField address count = some (address.toNat, count.toNat) := if_pos ⟨low, high, fits⟩

theorem transferField_none {address count : Half}
    (h : ¬ (1 ≤ count.toNat ∧ count.toNat ≤ 512 ∧ address.toNat + count.toNat ≤ 32768)) :
    transferField address count = none := if_neg h

/-- Settles O16. -/
theorem memWriteStoresExactlyItsOctets : Obligations.MemWriteStoresExactlyItsOctets := by
  unfold Obligations.MemWriteStoresExactlyItsOctets
  intro address count data s form hl hs hw
  refine ⟨fun low high fits => ?_, fun out => ?_⟩
  · have length : data.length = count.toNat := by
      rw [Instr.wellFormed, if_pos ⟨low, high⟩, beq_iff_eq] at hw
      exact hw
    have written : s.perform (.memWrite address count data) =
        (s.setMemory (s.memory.writeOctets address.toNat data)).done := by
      simp only [State.perform, State.memWriteAnswer, transferField_some low high fits]
      rw [← length, List.take_length]
    refine ⟨_, exec_done hl rfl hw (.inr hs) written, writeOctets_wf form _ _, fun a => ?_⟩
    rw [read_writeOctets form (by rw [length]; exact fits), length]
  · refine exec_refused hl rfl hw (.inr hs) (st := .refusedArg) ?_ (by decide)
    simp only [State.perform, State.memWriteAnswer, transferField_none out]

theorem readOctets_ofFn (m : Memory) (a n : Nat) :
    m.readOctets a n = List.ofFn fun k : Fin n => m.read (a + k.val) := by
  refine List.ext_getElem (by rw [readOctets_length, List.length_ofFn]) fun k hk _ => ?_
  rw [readOctets_length] at hk
  rw [List.getElem_ofFn, ← readOctets_getD m a hk, List.getD_eq_getElem _ _ (by rwa [readOctets_length])]

/-- Settles O17. -/
theorem memReadReturnsTheStoredOctets : Obligations.MemReadReturnsTheStoredOctets := by
  unfold Obligations.MemReadReturnsTheStoredOctets
  intro address count s hl hs
  refine ⟨fun low high fits => ?_, fun out => ?_⟩
  · refine exec_data hl rfl rfl (.inr hs) ?_
    simp only [State.perform, State.memReadAnswer, transferField_some low high fits, readOctets_ofFn]
  · refine exec_refused hl rfl rfl (.inr hs) (st := .refusedArg) ?_ (by decide)
    simp only [State.perform, State.memReadAnswer, transferField_none out]

/-! ### Descriptors and lists -/

theorem kindField_eq (kindByte : Octet) : kindField kindByte =
    if kindByte.toNat % 4 = 3 then none
    else some (match kindByte.toNat % 4 with | 0 => .message | 1 => .broadcast | _ => .notice) := by
  have low : bitsOf kindByte 0 2 = kindByte.toNat % 4 := by simp [bitsOf]
  have small : kindByte.toNat % 4 < 4 := Nat.mod_lt _ (by decide)
  rw [kindField, low]
  generalize kindByte.toNat % 4 = k at small
  interval_cases k <;> rfl

theorem destinationField_none {kindByte destByte : Octet}
    (h : ¬ (kindByte.toNat / 4 % 4 ≠ 3 ∧ (kindByte.toNat / 4 % 4 = 0 → destByte.toNat < 32) ∧
      (kindByte.toNat / 4 % 4 = 1 → destByte.toNat < 16))) : destinationField kindByte destByte = none := by
  have low : bitsOf kindByte 2 2 = kindByte.toNat / 4 % 4 := by simp [bitsOf]
  have small : kindByte.toNat / 4 % 4 < 4 := Nat.mod_lt _ (by decide)
  rw [destinationField, low]
  generalize kindByte.toNat / 4 % 4 = k at small h
  have beyond (n : Nat) (out : ¬ destByte.toNat < n) : indexField n destByte = none :=
    indexField_beyond (Nat.not_lt.mp out)
  interval_cases k
  · simp [beyond 32 (by simpa using h)]
  · simp [beyond 16 (by simpa using h)]
  · simp at h
  · rfl

theorem destinationField_some {kindByte destByte : Octet} (kind : kindByte.toNat / 4 % 4 ≠ 3)
    (station : kindByte.toNat / 4 % 4 = 0 → destByte.toNat < 32)
    (list : kindByte.toNat / 4 % 4 = 1 → destByte.toNat < 16) : destinationField kindByte destByte =
      some (match kindByte.toNat / 4 % 4 with
        | 0 => .station (Fin.ofNat 32 destByte.toNat)
        | 1 => .list (Fin.ofNat 16 destByte.toNat)
        | _ => .all) := by
  have low : bitsOf kindByte 2 2 = kindByte.toNat / 4 % 4 := by simp [bitsOf]
  have small : kindByte.toNat / 4 % 4 < 4 := Nat.mod_lt _ (by decide)
  rw [destinationField, low]
  have index (n : Nat) [NeZero n] (within : destByte.toNat < n) :
      indexField n destByte = some (Fin.ofNat n destByte.toNat) := by
    rw [indexField_some within]
    exact congrArg some (Fin.ext (Nat.mod_eq_of_lt within).symm)
  generalize kindByte.toNat / 4 % 4 = k at small kind station list
  interval_cases k
  · simp [index 32 (station rfl)]
  · simp [index 16 (list rfl)]
  · rfl
  · exact absurd rfl kind

theorem linkField_some {link : Octet} (h : link.toNat < 128 ∨ link.toNat = 255) : linkField link =
    some (if link.toNat = 255 then none else some (Fin.ofNat 128 link.toNat)) := by
  have ends : link = 0xFF ↔ link.toNat = 255 := ⟨fun e => by rw [e]; rfl, fun e => BitVec.eq_of_toNat_eq e⟩
  unfold linkField
  by_cases e : link.toNat = 255
  · rw [if_pos (ends.mpr e), if_pos e]
  · have within : link.toNat < 128 := h.resolve_right e
    rw [if_neg fun l => e (ends.mp l), if_neg e, indexField_some within]
    exact congrArg (fun d => some (some d)) (Fin.ext (Nat.mod_eq_of_lt within).symm)

theorem linkField_none {link : Octet} (h : ¬ (link.toNat < 128 ∨ link.toNat = 255)) : linkField link = none := by
  have notEnd : link ≠ 0xFF := fun e => h (.inr (by rw [e]; rfl))
  rw [linkField, if_neg notEnd, indexField_beyond (by omega)]
  rfl

section
variable {index kindByte destByte channelByte : Octet} {address length : Half} {value : Value} {link : Octet}

/-- R59: the host fields where every octet is in range. -/
theorem hostFieldsOf_some (h : descWriteInRange index kindByte destByte address link) :
    ∃ f : HostFields, hostFieldsOf kindByte destByte channelByte address length value link = some f ∧
      f.kind = (match kindByte.toNat % 4 with | 0 => .message | 1 => .broadcast | _ => .notice) ∧
      f.destination = (match kindByte.toNat / 4 % 4 with
        | 0 => .station (Fin.ofNat 32 destByte.toNat)
        | 1 => .list (Fin.ofNat 16 destByte.toNat)
        | _ => .all) ∧
      f.inbox.val = channelByte.toNat % 8 ∧ f.word.val = channelByte.toNat / 16 % 4 ∧
      f.address.val = address.toNat ∧ f.length.val = length.toNat % 1024 ∧ f.value = value ∧
      f.link = (if link.toNat = 255 then none else some (Fin.ofNat 128 link.toNat)) ∧
      f.notify = kindByte.getLsbD 4 := by
  obtain ⟨-, kind, destKind, station, list, inside, linked⟩ := h
  unfold hostFieldsOf
  rw [kindField_eq, if_neg kind, destinationField_some destKind station list, addressField_some inside,
    linkField_some linked]
  refine ⟨_, rfl, rfl, rfl, ?_, ?_, rfl, rfl, rfl, rfl, rfl⟩
  · simp [bitsOf]
  · simp [bitsOf]

/-- R59: the host fields where an octet beyond the index is out of range. -/
theorem hostFieldsOf_none (inside : index.toNat < 128)
    (h : ¬ descWriteInRange index kindByte destByte address link) :
    hostFieldsOf kindByte destByte channelByte address length value link = none := by
  unfold hostFieldsOf
  rw [kindField_eq]
  split
  · rfl
  · next kind =>
    by_cases dest : kindByte.toNat / 4 % 4 ≠ 3 ∧ (kindByte.toNat / 4 % 4 = 0 → destByte.toNat < 32) ∧
        (kindByte.toNat / 4 % 4 = 1 → destByte.toNat < 16)
    · by_cases buffer : address.toNat < 32768
      · have linked : ¬ (link.toNat < 128 ∨ link.toNat = 255) := fun linked =>
          h ⟨inside, kind, dest.1, dest.2.1, dest.2.2, buffer, linked⟩
        rw [destinationField_some dest.1 dest.2.1 dest.2.2, addressField_some buffer, linkField_none linked]
        rfl
      · rw [destinationField_some dest.1 dest.2.1 dest.2.2, addressField_beyond (Nat.not_lt.mp buffer)]
        rfl
    · rw [destinationField_none dest]; rfl

end

/-- Settles O42. -/
theorem descWriteFillsADisarmedDescriptor : Obligations.DescWriteFillsADisarmedDescriptor := by
  unfold Obligations.DescWriteFillsADisarmedDescriptor
  intro index kindByte destByte channelByte address length value link s hl hs
  refine ⟨fun inRange d hd => ?_, fun out => ?_⟩
  · obtain ⟨h, fields, contents⟩ := hostFieldsOf_some (channelByte := channelByte) (length := length)
      (value := value) inRange
    subst hd
    refine ⟨fun armed => ?_, fun free => ⟨h, ?_, contents⟩⟩
    · refine exec_refused hl rfl rfl (.inr hs) (st := .refusedOwned) ?_ (by decide)
      simp only [State.perform, State.descWriteAnswer, indexField_desc, fields, armed, if_true]
    · refine exec_done hl rfl rfl (.inr hs) ?_
      simp only [State.perform, State.descWriteAnswer, indexField_desc, fields, free]
      rfl
  · refine exec_refused hl rfl rfl (.inr hs) (st := .refusedArg) ?_ (by decide)
    simp only [State.perform, State.descWriteAnswer]
    by_cases inside : index.toNat < 128
    · rw [hostFieldsOf_none inside out, indexField_some inside]
    · rw [indexField_beyond (Nat.not_lt.mp inside)]

theorem waitedAt_iff (s : State) (d : DescIx) :
    s.waitedAt d = true ↔ ∃ q : QueueIx, s.queue q = .waitingAt d := by
  simp [State.waitedAt]

theorem indexField_eq_some_iff {n : Nat} (hn : n ≤ 256) {o : Octet} {i : Fin n} :
    indexField n o = some i ↔ o = octet i.val := by
  refine ⟨fun h => ?_, fun h => by rw [h, indexField_octet hn]⟩
  unfold indexField at h
  split at h
  · cases h; exact (octet_of_toNat o).symm
  · cases h

theorem octet_station_injective : Function.Injective fun p : Station => octet p.val := fun p r h => by
  have := congrArg (indexField 32) h
  simpa [indexField_station] using this

/-- R61: LIST_WRITE's stations, where they are in range, are those that its octets spell. -/
theorem stationsField_eq_some_iff {own : Station} {count : Octet} {stations : List Octet} {l : List Station}
    (length : stations.length ≤ count.toNat) : stationsField own count stations = some l ↔
      (1 ≤ count.toNat ∧ count.toNat ≤ 8) ∧ stations = l.map (fun p => octet p.val) ∧ l.Nodup ∧ own ∉ l := by
  have spelt (l : List Station) :
      stations.mapM (indexField 32) = some l ↔ stations = l.map (fun p => octet p.val) := by
    rw [mapM_eq_some_iff, ← List.forall₂_eq_eq_eq, List.forall₂_map_right_iff]
    simp only [indexField_eq_some_iff (n := 32) (by decide)]
  unfold stationsField
  rw [List.take_of_length_le length]
  split
  · next range =>
    split
    · next l' hl' =>
      rw [spelt] at hl'
      constructor
      · intro h
        split at h
        · next distinct => cases h; exact ⟨range, hl', distinct⟩
        · cases h
      · rintro ⟨-, hl, distinct⟩
        obtain rfl : l' = l := octet_station_injective.list_map (hl'.symm.trans hl)
        rw [if_pos distinct]
    · next none =>
      refine iff_of_false nofun fun h => ?_
      rw [(spelt l).mpr h.2.1] at none
      cases none
  · next range => exact iff_of_false nofun fun h => range h.1

/-- Settles O43. -/
theorem disarmAndListWriteActOnTheStore : Obligations.DisarmAndListWriteActOnTheStore := by
  unfold Obligations.DisarmAndListWriteActOnTheStore
  refine ⟨fun d s hl hs => ?_, fun index s hl hs beyond => ?_, fun list count stations s hl hs hw => ?_⟩
  · have owned : ((s.desc d).holder.isSome = true ∨ ∃ q : QueueIx, s.queue q = .waitingAt d) ↔
        ((s.desc d).holder.isSome || s.waitedAt d) = true := by
      rw [Bool.or_eq_true, waitedAt_iff]
    refine ⟨fun free => ?_, fun armed held => ?_, fun armed unheld => ?_⟩
    · refine exec_refused hl rfl rfl (.inr hs) (st := .refusedState) ?_ (by decide)
      simp only [State.perform, State.descDisarmAnswer, indexField_desc, free]
      rfl
    · rw [owned] at held
      refine exec_refused hl rfl rfl (.inr hs) (st := .refusedOwned) ?_ (by decide)
      simp only [State.perform, State.descDisarmAnswer, indexField_desc, armed, held]
      rfl
    · rw [owned, Bool.not_eq_true] at unheld
      refine exec_done hl rfl rfl (.inr hs) ?_
      simp only [State.perform, State.descDisarmAnswer, indexField_desc, armed, unheld]
      rfl
  · refine exec_refused hl rfl rfl (.inr hs) (st := .refusedArg) ?_ (by decide)
    simp only [State.perform, State.descDisarmAnswer, indexField_beyond beyond]
  · have length : stations.length ≤ count.toNat := by
      unfold Instr.wellFormed at hw
      dsimp only at hw
      split at hw
      · exact (beq_iff_eq.mp hw).le
      · rw [List.isEmpty_iff.mp hw]; exact Nat.zero_le _
    refine ⟨fun inRange => ?_, fun out => ?_⟩
    · obtain ⟨index, low, high, within, distinct, own⟩ := inRange
      have spelt : stations = (stations.map fun o => Fin.ofNat 32 o.toNat).map fun p => octet p.val := by
        rw [List.map_map]
        refine ((List.map_congr_left fun o ho => ?_).trans (List.map_id stations)).symm
        have value : (Fin.ofNat 32 o.toNat).val = o.toNat := Nat.mod_eq_of_lt (within o ho)
        rw [Function.comp_apply, value, octet_of_toNat, id]
      have taken : stationsField s.own count stations =
          some (stations.map fun o => Fin.ofNat 32 o.toNat) := by
        rw [stationsField_eq_some_iff length]
        refine ⟨⟨low, high⟩, spelt, ?_, fun h => own ?_⟩
        · rw [spelt] at distinct
          exact distinct.of_map
        · rw [spelt]; exact List.mem_map_of_mem h
      refine ⟨⟨list.toNat, index⟩, _, (octet_of_toNat list).symm, spelt, exec_done hl rfl hw (.inr hs) ?_⟩
      simp only [State.perform, State.listWriteAnswer, indexField_some index, taken]
    · refine exec_refused hl rfl hw (.inr hs) (st := .refusedArg) ?_ (by decide)
      simp only [State.perform, State.listWriteAnswer]
      split
      · next n l hn hl =>
        rw [stationsField_eq_some_iff length] at hl
        obtain ⟨range, spelt, distinct, own⟩ := hl
        refine absurd ⟨?_, range.1, range.2, ?_, ?_, ?_⟩ out
        · by_contra beyond
          rw [indexField_beyond (Nat.not_lt.mp beyond)] at hn
          cases hn
        · intro o ho
          rw [spelt] at ho
          obtain ⟨p, -, rfl⟩ := List.mem_map.mp ho
          rw [octet_toNat (by omega)]
          exact p.isLt
        · rw [spelt]; exact distinct.map octet_station_injective
        · rw [spelt]; exact fun h => own ((List.mem_map_of_injective octet_station_injective).mp h)
      · rfl

/-! ### Events, words and counters -/

/-- Settles O56. -/
theorem clearsAndTakesActOnWhatTheyReport : Obligations.ClearsAndTakesActOnWhatTheyReport := by
  unfold Obligations.ClearsAndTakesActOnWhatTheyReport
  intro s hl hs
  refine ⟨fun m => ⟨_, exec_done hl rfl rfl (.inr hs) rfl, rfl, rfl, fun q => mapTable_get .., rfl, rfl, rfl⟩,
    fun m => ⟨m.setWidth 21, exec_done hl rfl rfl (.inr hs) rfl, fun n hn => ?_⟩, fun w => ?_,
    fun n beyond => ?_, exec_data hl rfl rfl (.inr hs) rfl⟩
  · rw [BitVec.getLsbD_setWidth, decide_eq_true hn, Bool.true_and]
  · refine exec_data hl rfl rfl (.inr hs) ?_
    simp only [State.perform, State.noticeTakeAnswer, indexField_queue, NoticeWord.octets, octet_bit]
    cases (s.word w).writer <;> rfl
  · refine exec_refused hl rfl rfl (.inr hs) (st := .refusedArg) ?_ (by decide)
    simp only [State.perform, State.noticeTakeAnswer, indexField_beyond beyond]

/-! ### Inboxes -/

/-- R130: what the rise of the offered count from 0 does to the pending flag. -/
theorem announceRise_eq {x y : Inbox} {room : Prop} [Decidable room] (announce : y.announce = x.announce)
    (h : x.offered = 0 ∧ 1 ≤ y.offered ∧ y.waiters ≠ 0 ↔ room) :
    y.announceRise x = { y with announce := x.announce || decide room } := by
  unfold Inbox.announceRise
  by_cases rises : room
  · rw [if_pos (h.mpr rises), decide_eq_true rises, Bool.or_true]
  · rw [if_neg fun r => rises (h.mp r), decide_eq_false rises, Bool.or_false, ← announce]

theorem post_eq (x : Inbox) (b : Buffer) : x.post b = { x with
    free := x.free ++ [b],
    announce := x.announce || decide (x.offered = 0 ∧ x.arrivals.length < 64 ∧ x.waiters ≠ 0) } := by
  refine announceRise_eq (x := x) (room := x.offered = 0 ∧ x.arrivals.length < 64 ∧ x.waiters ≠ 0) rfl
    (and_congr_right fun _ => and_congr_left fun _ => ?_)
  change 0 < _ ↔ _
  rw [offered_pos]
  exact and_iff_right (by simp)

theorem take_eq {x : Inbox} {a : Arrival} {rest : List Arrival} (h : x.arrivals = a :: rest) :
    x.take = { x with
      arrivals := rest,
      announce := x.announce ||
        decide (x.offered = 0 ∧ x.free ≠ [] ∧ rest.length < 64 ∧ x.waiters ≠ 0) } := by
  have dropped : x.arrivals.drop 1 = rest := by rw [h]; rfl
  unfold Inbox.take
  rw [dropped]
  refine announceRise_eq (x := x)
    (room := x.offered = 0 ∧ x.free ≠ [] ∧ rest.length < 64 ∧ x.waiters ≠ 0) rfl (and_congr_right fun _ => ?_)
  change 0 < _ ∧ _ ↔ _
  rw [offered_pos, and_assoc]

theorem address_toNat (a : MemAddr) : (BitVec.ofNat 16 a.val).toNat = a.val := by
  rw [BitVec.toNat_ofNat]; exact Nat.mod_eq_of_lt (a.isLt.trans (by decide))

/-- R105: a buffer address is read back. -/
theorem addressField_address (a : MemAddr) : addressField (BitVec.ofNat 16 a.val) = some a := by
  rw [addressField_some (by rw [address_toNat]; exact a.isLt)]
  exact congrArg some (Fin.ext (address_toNat a))

/-- R105: INBOX_POST of a buffer that lies in packet memory. -/
theorem perform_inboxPost (s : State) (i : InboxIx) (a : MemAddr) {n : Half}
    (inside : 1 ≤ n.toNat ∧ n.toNat ≤ 512 ∧ a.val + n.toNat ≤ 32768) :
    s.perform (.inboxPost (octet i.val) (BitVec.ofNat 16 a.val) n) =
      if !(s.inboxSetting i).enabled then s.refuse .refusedState
      else if 32 ≤ (s.inbox i).free.length then s.refuse .refusedFull
      else (s.setInbox i ((s.inbox i).post { address := a, capacity := n.toNat })).done := by
  simp only [State.perform, State.inboxPostAnswer, indexField_inbox, addressField_address, address_toNat]
  exact if_pos inside

/-- Settles O54. -/
theorem inboxCommandsMoveBuffersAndArrivals : Obligations.InboxCommandsMoveBuffersAndArrivals := by
  unfold Obligations.InboxCommandsMoveBuffersAndArrivals
  refine ⟨fun i a n s hl hs => ?_, fun i s hl hs => ?_, fun n a h s hl hs => ?_, fun i s hl hs => ?_⟩
  · have posted := fun inRange => perform_inboxPost s i a (n := n) inRange
    refine ⟨fun out => ?_, fun inRange disabled => ?_, fun inRange enabled full => ?_,
      fun inRange enabled room => ?_⟩
    · refine exec_refused hl rfl rfl (.inr hs) (st := .refusedArg) ?_ (by decide)
      simp only [State.perform, State.inboxPostAnswer, indexField_inbox, addressField_address, address_toNat]
      exact if_neg out
    · refine exec_refused hl rfl rfl (.inr hs) (st := .refusedState) ?_ (by decide)
      rw [posted inRange, disabled]; rfl
    · refine exec_refused hl rfl rfl (.inr hs) (st := .refusedFull) ?_ (by decide)
      rw [posted inRange, enabled, if_pos full]; rfl
    · refine exec_done hl rfl rfl (.inr hs) ?_
      rw [posted inRange, enabled, if_neg (Nat.not_le.mpr room), post_eq]; rfl
  · refine ⟨fun empty => ?_, fun a rest held => ?_⟩
    · refine exec_refused hl rfl rfl (.inr hs) (st := .empty) ?_ (by decide)
      simp only [State.perform, State.inboxTakeAnswer, indexField_inbox, empty]
    · refine exec_data hl rfl rfl (.inr hs) ?_
      simp only [State.perform, State.inboxTakeAnswer, indexField_inbox, held, take_eq held, Arrival.octets]
      cases a.kind <;> cases a.seq <;> rfl
  · refine ⟨fun out => ?_, fun beyond => ⟨?_, ?_⟩⟩
    · refine exec_refused hl rfl rfl (.inr hs) (st := .refusedArg) ?_ (by decide)
      simp only [State.perform, State.inboxPostAnswer]
      rcases out with out | out
      · rw [indexField_beyond out]
      · rw [addressField_beyond out]
        cases indexField 8 n <;> rfl
    · refine exec_refused hl rfl rfl (.inr hs) (st := .refusedArg) ?_ (by decide)
      simp only [State.perform, State.inboxTakeAnswer, indexField_beyond beyond]
    · refine exec_refused hl rfl rfl (.inr hs) (st := .refusedArg) ?_ (by decide)
      simp only [State.perform, State.inboxReadAnswer, indexField_beyond beyond]
  · refine exec_data hl rfl rfl (.inr hs) ?_
    simp only [State.perform, State.inboxReadAnswer, indexField_inbox, State.inboxData]
    have flags : bit (s.inboxSetting i).enabled + 2 * bit (s.inboxSetting i).broadcast +
        4 * bit (s.inbox i).announce = (if (s.inboxSetting i).enabled then 1 else 0) +
          (if (s.inboxSetting i).broadcast then 2 else 0) + if (s.inbox i).announce then 4 else 0 := by
      cases (s.inboxSetting i).enabled <;> cases (s.inboxSetting i).broadcast <;>
        cases (s.inbox i).announce <;> rfl
    rw [flags]
    rfl

end Sys2Proof.Machine
end

section
/-!
PROOFS. CONFIGURE, LEAVE and JOIN (R33, R34, R104, R174 to R176), and the host commands that report: LOG_TAKE,
DESC_READ, QUEUE_READ and PEER_READ (R54, R60, R76, R148, R149, Table 11-4).
-/

namespace Sys2Proof.Machine

/-! ### The settings of CONFIGURE -/

/-- R169: bit n of the number that octets give is bit n mod 8 of octet n / 8. -/
theorem octetsValue_testBit (l : List Octet) (n : Nat) :
    (octetsValue l).testBit n = (l.getD (n / 8) 0).getLsbD (n % 8) := by
  induction l generalizing n with
  | nil => simp [octetsValue]
  | cons o rest ih =>
    rw [octetsValue, Nat.add_comm, show (256 : Nat) = 2 ^ 8 from rfl, Nat.testBit_two_pow_mul_add _ o.isLt]
    split
    · next first => rw [Nat.div_eq_of_lt first, Nat.mod_eq_of_lt first]; rfl
    · next later =>
      obtain ⟨m, rfl⟩ : ∃ m, n = m + 8 := ⟨n - 8, by omega⟩
      rw [Nat.add_sub_cancel, ih, Nat.add_div_right m (by omega), Nat.add_mod_right, List.getD_cons_succ]

/-- R104: the source set that four octets give, without the own address. -/
theorem sources_getLsbD (l : List Octet) (own p : Station) :
    (withoutStation (BitVec.ofNat 32 (octetsValue l)) own).getLsbD p.val =
      (decide (p ≠ own) && (l.getD (p.val / 8) 0).getLsbD (p.val % 8)) := by
  rw [withoutStation, BitVec.getLsbD_and, BitVec.getLsbD_ofNat, decide_eq_true p.isLt, Bool.true_and,
    BitVec.getLsbD_not, decide_eq_true p.isLt, Bool.true_and, BitVec.getLsbD_twoPow, octetsValue_testBit,
    Bool.and_comm]
  congr 1
  rw [decide_eq_true own.isLt, Bool.true_and, ← decide_not]
  exact decide_eq_decide.mpr (not_congr ⟨fun h => Fin.ext h.symm, fun h => congrArg Fin.val h.symm⟩)

/-- Table 11-3: an access octet is refused where it is out of range. -/
theorem accessField_none {o : Octet} (h : ¬ (o.toNat % 4 ≠ 3 ∧ (o.toNat % 4 = 2 → o.toNat / 4 < 32))) :
    accessField o = none := by
  have low : bitsOf o 0 2 = o.toNat % 4 := by simp [bitsOf]
  have high : bitsOf o 2 6 = o.toNat / 4 := by
    have := o.isLt
    simp only [bitsOf]
    omega
  have small : o.toNat % 4 < 4 := Nat.mod_lt _ (by decide)
  rw [accessField, low, high]
  generalize o.toNat % 4 = k at small h
  interval_cases k
  · simp at h
  · simp at h
  · exact dif_neg (by simpa using h)
  · rfl

theorem accessField_some {o : Octet} (h : o.toNat % 4 ≠ 3 ∧ (o.toNat % 4 = 2 → o.toNat / 4 < 32)) :
    accessField o = some (match o.toNat % 4 with
      | 0 => .closed
      | 1 => .opened
      | _ => .restricted (Fin.ofNat 32 (o.toNat / 4))) := by
  have low : bitsOf o 0 2 = o.toNat % 4 := by simp [bitsOf]
  have high : bitsOf o 2 6 = o.toNat / 4 := by
    have := o.isLt
    simp only [bitsOf]
    omega
  have small : o.toNat % 4 < 4 := Nat.mod_lt _ (by decide)
  obtain ⟨defined, station⟩ := h
  simp only [accessField, low, high]
  generalize o.toNat % 4 = k at small defined station
  interval_cases k
  · rfl
  · rfl
  · refine (dif_pos (station rfl)).trans (congrArg (fun p => some (Access.restricted p)) ?_)
    exact Fin.ext (Nat.mod_eq_of_lt (station rfl)).symm
  · exact absurd rfl defined

/-- R136: the access that an octet in range gives. -/
def accessOf (o : Octet) : Access :=
  match o.toNat % 4 with
  | 0 => .closed
  | 1 => .opened
  | _ => .restricted (Fin.ofNat 32 (o.toNat / 4))

section
variable {params : List Octet} {o : Nat → Octet} (own : Station) (ho : ∀ n, o n = params.getD (n - 1) 0)
include ho

/-- R175: the settings that parameters in range give. -/
theorem settingsOf_some (h : ConfigureInRange o) : ∃ set : Settings, settingsOf own params = some set ∧
    set.epoch.toNat = (o 1).toNat % 16 ∧ set.presence.val = (o 2).toNat ∧
    set.retryLimit = (o 3).toNat ∧ set.holdLimit = (o 4).toNat ∧ set.patience = (o 5).toNat ∧
    (∀ q : QueueIx, set.queues[q] = queueSettingField params q) ∧
    (∀ i : InboxIx, set.inboxes[i] = inboxSettingField own params i) ∧
    ∀ w : WordIx, set.access[w] = accessOf (o (47 + w.val)) := by
  obtain ⟨presence, retry, hold, patience, access⟩ := h
  have octets (n : Nat) : octetAt params n = o n := (ho n).symm
  have words (w : WordIx) : accessField (o (47 + w.val)) = some (accessOf (o (47 + w.val))) :=
    accessField_some (access w)
  have running : ¬ o 4 = 0 := fun zero => hold (by rw [zero]; rfl)
  simp only [settingsOf, octets, indexField_some (n := 6) (Nat.lt_succ_of_le presence),
    indexField_some (n := 8) (Nat.lt_succ_of_le retry), indexField_some (n := 16) (Nat.lt_succ_of_le patience),
    show accessField (o 47) = _ from words 0, show accessField (o 48) = _ from words 1,
    show accessField (o 49) = _ from words 2, show accessField (o 50) = _ from words 3, if_neg running]
  refine ⟨_, rfl, ?_, rfl, rfl, rfl, rfl, fun q => Vector.getElem_ofFn .., fun i => Vector.getElem_ofFn ..,
    fun w => ?_⟩
  · simp [bitsOf]
  · fin_cases w <;> rfl

/-- R175: parameters out of range are refused. -/
theorem settingsOf_none (h : ¬ ConfigureInRange o) : settingsOf own params = none := by
  have octets (n : Nat) : octetAt params n = o n := (ho n).symm
  by_contra taken
  obtain ⟨set, hset⟩ := Option.ne_none_iff_exists'.mp taken
  have within {n m : Nat} {i : Fin n} (hi : indexField n (o m) = some i) : (o m).toNat < n := by
    by_contra beyond
    rw [indexField_beyond (Nat.not_lt.mp beyond)] at hi
    cases hi
  have word {m : Nat} {a : Access} (ha : accessField (o m) = some a) :
      (o m).toNat % 4 ≠ 3 ∧ ((o m).toNat % 4 = 2 → (o m).toNat / 4 < 32) := by
    by_contra out
    rw [accessField_none out] at ha
    cases ha
  simp only [settingsOf, octets, Option.bind_eq_bind, Option.bind_eq_some_iff] at hset
  obtain ⟨presence, hpresence, retry, hretry, patience, hpatience, a0, h0, a1, h1, a2, h2, a3, h3, hold⟩ := hset
  have running : ¬ o 4 = 0 := fun zero => by rw [if_pos zero] at hold; cases hold
  refine h ⟨Nat.le_of_lt_succ (within hpresence), Nat.le_of_lt_succ (within hretry), fun zero => ?_,
    Nat.le_of_lt_succ (within hpatience), fun w => ?_⟩
  · exact running (BitVec.eq_of_toNat_eq zero)
  · fin_cases w
    · exact word h0
    · exact word h1
    · exact word h2
    · exact word h3

end

/-- Settles O11. -/
theorem configureTakesItsParameters : Obligations.ConfigureTakesItsParameters := by
  unfold Obligations.ConfigureTakesItsParameters
  intro params s o length ho hl fresh inRange
  obtain ⟨set, hset, epoch, presence, retry, hold, patience, queues, inboxes, access⟩ :=
    settingsOf_some s.own ho inRange
  have octets (n : Nat) : octetAt params n = o n := (ho n).symm
  have performed : s.perform (.configure params) = (s.configure set).done := by
    simp only [State.perform, State.configureAnswer, State.configured, fresh, hset]
    rfl
  refine ⟨s.configure set, set, exec_done hl rfl (beq_iff_eq.mpr length) (.inl rfl) performed, rfl, epoch, presence,
    retry, hold, patience, fun q => ?_, fun i => ?_, access⟩
  · rw [queues, queueSettingField, octets]; rfl
  · rw [inboxes, inboxSettingField]
    simp only [octets]
    refine ⟨rfl, rfl, fun p => ?_⟩
    rw [sources_getLsbD]
    congr 2
    have small : p.val / 8 < 4 := by omega
    generalize p.val / 8 = k at small
    interval_cases k <;> exact congrArg o (by omega)

/-- Settles O12. -/
theorem configureOutOfRangeOrTwiceIsRefused : Obligations.ConfigureOutOfRangeOrTwiceIsRefused := by
  unfold Obligations.ConfigureOutOfRangeOrTwiceIsRefused
  intro params s o length ho hl
  have hw : (Instr.configure params).wellFormed = true := beq_iff_eq.mpr length
  refine ⟨fun fresh out => ?_, fun twice => ?_⟩
  · refine exec_refused hl rfl hw (.inl rfl) (st := .refusedArg) ?_ (by decide)
    simp only [State.perform, State.configureAnswer, State.configured, fresh, settingsOf_none s.own ho out]
    rfl
  · refine exec_refused hl rfl hw (.inl rfl) (st := .locked) ?_ (by decide)
    simp only [State.perform, State.configureAnswer, State.configured, twice, if_true]

end Sys2Proof.Machine
end

section
/-!
PROOFS. The host commands that report: LOG_TAKE, DESC_READ, QUEUE_READ and PEER_READ (R54, R60, R76, R148, R149,
Table 11-4).
-/

namespace Sys2Proof.Machine

/-! ### Fields of a response -/

theorem padded_length (n : Nat) (l : List Octet) : (padded n l).length = n := by
  simp [padded]

/-- An octet of a padded list is that of the list. -/
theorem padded_getD {n k : Nat} {l : List Octet} {o : Octet} (hk : k < n) (h : l[k]? = some o) :
    (padded n l).getD k 0 = o := by
  obtain ⟨inside, -⟩ := List.getElem?_eq_some_iff.mp h
  rw [padded, List.getD_eq_getElem?_getD, List.getElem?_take_of_lt hk, List.getElem?_append_left inside, h]
  rfl

/-- The two octets of entry k of a list of pairs. -/
theorem pairs_getElem? {α : Type} (f g : α → Octet) {l : List α} {k : Nat} {x : α} (h : l[k]? = some x) :
    (l.flatMap fun x => [f x, g x])[2 * k]? = some (f x) ∧
      (l.flatMap fun x => [f x, g x])[2 * k + 1]? = some (g x) := by
  induction l generalizing k with
  | nil => cases h
  | cons a l ih =>
    cases k with
    | zero => cases h; exact ⟨rfl, rfl⟩
    | succ k => exact ih h

theorem perDestOctets_length (l : Option (List (Station × Outcome))) : (perDestOctets l).length = 17 := by
  simp [perDestOctets, padded_length]

/-- Table 11-4: the entries of a per-destination list, after its length. -/
theorem perDestOctets_getD {l : Option (List (Station × Outcome))} {k : Nat} {p : Station} {o : Outcome}
    (hk : k < 8) (h : (l.getD [])[k]? = some (p, o)) :
    (perDestOctets l).getD (1 + 2 * k) 0 = octet p.val ∧ (perDestOctets l).getD (2 + 2 * k) 0 = octet o.code := by
  obtain ⟨station, outcome⟩ := pairs_getElem? (fun e : Station × Outcome => octet e.1.val)
    (fun e => octet e.2.code) h
  constructor
  · rw [Nat.add_comm]; exact padded_getD (by omega) station
  · rw [show 2 + 2 * k = (2 * k + 1) + 1 by omega]; exact padded_getD (by omega) outcome

/-- What stands behind a run of octets. -/
theorem getD_append_at {l m : List Octet} {n : Nat} (h : l.length = n) (k : Nat) :
    (l ++ m).getD (n + k) 0 = m.getD k 0 := by
  rw [List.getD_append_right _ _ _ _ (by omega), h, Nat.add_sub_cancel_left]

theorem outcomeOctets : OutcomeOctets := ⟨rfl, rfl⟩

/-! ### DESC_READ -/

theorem hostOctets_length (d : Descriptor) : d.hostOctets.length = 12 := by
  simp [Descriptor.hostOctets, octetsOf_length]

/-- Table 11-4: the response of DESC_READ up to the per-destination list. -/
def State.descFront (s : State) (d : DescIx) : List Octet :=
  octet d.val :: (s.desc d).hostOctets ++
    [finOr (s.desc d).holder, outcomeOctet (s.desc d).outcome, octet (s.desc d).attempts,
      octet (s.desc d).late]

theorem descFront_length (s : State) (d : DescIx) : (s.descFront d).length = 17 := by
  simp [State.descFront, hostOctets_length]

theorem descData_eq (s : State) (d : DescIx) : s.descData d = s.descFront d ++ perDestOctets (s.desc d).perDest := rfl

theorem kindOctet_eq (h : HostFields) (armed : Bool) :
    octet (h.kind.code + 4 * h.destination.codes.1 + 16 * bit h.notify + 32 * bit armed) =
      octet ((match h.kind with | .message => 0 | .broadcast => 1 | .notice => 2) +
        (match h.destination with | .station _ => 0 | .list _ => 4 | .all => 8) +
        (if h.notify then 16 else 0) + if armed then 32 else 0) := by
  cases h.kind <;> cases h.destination <;> cases h.notify <;> cases armed <;> rfl

theorem destinationOctet_eq (x : Destination) : octet x.codes.2 =
    (match x with | .station p => octet p.val | .list n => octet n.val | .all => 0) := by
  cases x <;> rfl

/-- Table 11-4: the response of DESC_READ up to the entries of the per-destination list. -/
theorem descData_front (s : State) (d : DescIx) {kind destination link holder : Octet}
    (hkind : kind = octet ((s.desc d).host.kind.code + 4 * (s.desc d).host.destination.codes.1 +
      16 * bit (s.desc d).host.notify + 32 * bit (s.desc d).armed))
    (hdestination : destination = octet (s.desc d).host.destination.codes.2)
    (hlink : link = finOr (s.desc d).host.link) (hholder : holder = finOr (s.desc d).holder) :
    (s.descData d).take 18 = [octet d.val, kind, destination,
        octet ((s.desc d).host.inbox.val + 16 * (s.desc d).host.word.val)] ++
      octetsOf 2 (s.desc d).host.address.val ++ octetsOf 2 (s.desc d).host.length.val ++
      octetsOf 4 (s.desc d).host.value.toNat ++
      [link, holder, outcomeOctet (s.desc d).outcome, octet (s.desc d).attempts, octet (s.desc d).late,
        octet ((s.desc d).perDest.getD []).length] := by
  subst hkind hdestination hlink hholder
  rw [descData_eq, List.take_append, descFront_length, List.take_of_length_le (by rw [descFront_length]; decide)]
  rfl

section
variable {s : State} (hl : s.listens) (hs : s.settings.isSome = true)
include hl hs

theorem exec_descRead (d : DescIx) :
    exec (.descRead (octet d.val)) s = .next (s.answered 0x00 (s.descData d)) := by
  refine exec_data hl rfl rfl (.inr hs) ?_
  simp only [State.perform, State.descReadAnswer, indexField_desc]

theorem exec_queueRead (q : QueueIx) :
    exec (.queueRead (octet q.val)) s = .next (s.answered 0x00 (s.queueData q)) := by
  refine exec_data hl rfl rfl (.inr hs) ?_
  simp only [State.perform, State.queueReadAnswer, indexField_queue]

theorem exec_peerRead (p : Station) :
    exec (.peerRead (octet p.val)) s = .next (s.answered 0x00 (s.peer p).octets) := by
  refine exec_data hl rfl rfl (.inr hs) ?_
  simp only [State.perform, State.peerReadAnswer, indexField_station]

end

/-! ### QUEUE_READ -/

/-- R73: a frame of the queue is on the trunk. -/
theorem frameOnTrunk_iff (s : State) (q : QueueIx) : s.frameOnTrunk q = true ↔ s.onTrunk q := by
  unfold State.frameOnTrunk State.onTrunk
  rw [Bool.or_eq_true]
  refine or_congr ?_ ?_
  · cases s.trunk.transmission with
    | none => simp
    | some tx =>
      cases item : tx.item with
      | queue r f => simp [item]
      | _ => simp [item]
  · cases s.trunk.watch with
    | none => simp
    | some w => simp

theorem flagOctet (a b c d : Bool) :
    (octet (bit a + 2 * bit b + 4 * bit c + 8 * bit d)).getLsbD 0 = a ∧
    (octet (bit a + 2 * bit b + 4 * bit c + 8 * bit d)).getLsbD 1 = b ∧
    (octet (bit a + 2 * bit b + 4 * bit c + 8 * bit d)).getLsbD 2 = c ∧
    (octet (bit a + 2 * bit b + 4 * bit c + 8 * bit d)).getLsbD 3 = d ∧
    (octet (bit a + 2 * bit b + 4 * bit c + 8 * bit d)).toNat < 16 := by
  revert a b c d; decide

theorem holdRunning_iff (st : QueueState) :
    st.holdRunning = true ↔ ∃ c, st.context = some c ∧ c.hold.isSome = true := by
  unfold QueueState.holdRunning
  cases st.context <;> simp

theorem contextOctets_some {st : QueueState} {c : Context} (h : st.context = some c) :
    st.contextOctets = [octet c.current, c.stationOctet, octet c.stepAttempts, octet c.fullCount,
      octet c.attempts, octet c.late, c.countOctet] ++ padded 8 (c.outcomes.map fun o => octet o.code) := by
  unfold QueueState.contextOctets
  rw [h]

theorem contextOctets_none {st : QueueState} (h : st.context = none) :
    st.contextOctets = [0, 0xFF] ++ List.replicate 13 0 := by
  unfold QueueState.contextOctets
  rw [h]
  rfl

theorem contextOctets_length (st : QueueState) : st.contextOctets.length = 15 := by
  cases h : st.context with
  | none => rw [contextOctets_none h]; rfl
  | some c => rw [contextOctets_some h, List.length_append, padded_length]; rfl

/-- The position that QUEUE_READ reports of a queue with a head. -/
theorem codes_of_context {st : QueueState} {c : Context} (h : st.context = some c) :
    st.codes.2 = (3, some c.head) := by
  cases st <;> cases h <;> rfl

/-- Table 11-4: octets 5 to 11 of QUEUE_READ, of a queue with a head. -/
theorem stationOctet_of_station {c : Context} {p : Station} (h : c.station = some p) :
    c.stationOctet = octet p.val := by
  unfold Context.stationOctet
  split
  · next all => rw [Context.station, all] at h; cases h
  · rw [h]; rfl
  · rw [h]; rfl

theorem countOctet_of_some {c : Context} (h : c.destCount ≠ 0) : c.countOctet = octet c.destCount := if_neg h

/-! ### PEER_READ -/

theorem pairOctets_getD (e : PeerEntry) (i : InboxIx) :
    e.octets.getD (2 + 2 * i.val) 0 = octet ((e.send[i]).anchor.val + 16 * (e.send[i]).blind) ∧
      e.octets.getD (3 + 2 * i.val) 0 = finOr (e.send[i]).lock ∧
      e.octets.getD (18 + i.val) 0 = finOr e.hints[i] ∧ e.octets.getD (26 + i.val) 0 = finOr e.receive[i] := by
  fin_cases i <;> exact ⟨rfl, rfl, rfl, rfl⟩

theorem peerOctets_length (e : PeerEntry) : e.octets.length = 34 := rfl

theorem peerOctets_head (e : PeerEntry) :
    e.octets.getD 0 0 = octet e.state.code ∧ e.octets.getD 1 0 = octetOr (e.epoch.map (·.toNat)) := ⟨rfl, rfl⟩

/-! ### The reports -/

theorem queueReadReports {s : State} (hl : s.listens) (hs : s.settings.isSome = true) (q : QueueIx) :
    ∃ data : List Octet,
    exec (.queueRead (octet q.val)) s = .next (s.answered 0x00 data) ∧ data.length = 19 ∧
    data.getD 0 0 = (match s.queue q with
      | .stopped => 0
      | .waitingAt _ | .waitingAfter _ => 1
      | .running _ => 2
      | .held _ => 3
      | .blockedLog _ => 4
      | .stopping _ => 5) ∧
    (s.queue q = .stopped → data.getD 1 0 = 0 ∧ data.getD 2 0 = 0xFF) ∧
    (∀ d, s.queue q = .waitingAt d → data.getD 1 0 = 1 ∧ data.getD 2 0 = octet d.val) ∧
    (∀ d, s.queue q = .waitingAfter d → data.getD 1 0 = 2 ∧ data.getD 2 0 = octet d.val) ∧
    (data.getD 3 0).getLsbD 0 = (s.queueSetting q).urgent ∧
    (data.getD 3 0).getLsbD 1 = (s.queueSetting q).logAll ∧
    ((data.getD 3 0).getLsbD 2 = true ↔ ∃ c, (s.queue q).context = some c ∧ c.hold.isSome = true) ∧
    ((data.getD 3 0).getLsbD 3 = true ↔ (s.queue q).context.isSome = true ∧ s.onTrunk q) ∧
    (data.getD 3 0).toNat < 16 ∧
    ((s.queue q).context = none → data.drop 4 = [0, 0xFF] ++ List.replicate 13 0) ∧
    ∀ c : Context, (s.queue q).context = some c → data.getD 1 0 = 3 ∧ data.getD 2 0 = octet c.head.val ∧
      data.getD 4 0 = octet c.current ∧
      (∀ p, c.station = some p → data.getD 5 0 = octet p.val) ∧
      (c.destinations = .all → data.getD 5 0 = 63) ∧
      data.getD 6 0 = octet c.stepAttempts ∧ data.getD 7 0 = octet c.fullCount ∧
      data.getD 8 0 = octet c.attempts ∧ data.getD 9 0 = octet c.late ∧
      (c.destCount ≠ 0 → data.getD 10 0 = octet c.destCount) ∧
      ∀ (k : Nat) (o : Outcome), k < 8 → c.outcomes[k]? = some o →
        data.getD (11 + k) 0 = octet o.code := by
  refine ⟨s.queueData q, exec_queueRead hl hs q, ?_, ?_, ?_, ?_, ?_, ?_⟩
  · simp [State.queueData, contextOctets_length]
  · change octet (s.queue q).codes.1 = _
    cases s.queue q <;> rfl
  · intro h
    change octet (s.queue q).codes.2.1 = _ ∧ finOr (s.queue q).codes.2.2 = _
    rw [h]; exact ⟨rfl, rfl⟩
  · intro d h
    change octet (s.queue q).codes.2.1 = _ ∧ finOr (s.queue q).codes.2.2 = _
    rw [h]; exact ⟨rfl, rfl⟩
  · intro d h
    change octet (s.queue q).codes.2.1 = _ ∧ finOr (s.queue q).codes.2.2 = _
    rw [h]; exact ⟨rfl, rfl⟩
  obtain ⟨urgent, logAll, hold, frame, small⟩ := flagOctet (s.queueSetting q).urgent (s.queueSetting q).logAll
    (s.queue q).holdRunning ((s.queue q).context.isSome && s.frameOnTrunk q)
  refine ⟨urgent, logAll, ?_, ?_, small, ?_, ?_⟩
  · rw [← holdRunning_iff, ← hold]; rfl
  · rw [← frameOnTrunk_iff, ← Bool.and_eq_true, ← frame]; rfl
  · exact contextOctets_none
  · intro c h
    have position := codes_of_context h
    have behind (k : Nat) : (s.queueData q).getD (4 + k) 0 = (s.queue q).contextOctets.getD k 0 :=
      getD_append_at rfl k
    have fields := contextOctets_some h
    refine ⟨?_, ?_, ?_, fun p hp => ?_, fun all => ?_, ?_, ?_, ?_, ?_, fun some => ?_, fun k o hk ho => ?_⟩
    · change octet (s.queue q).codes.2.1 = _
      rw [position]; rfl
    · change finOr (s.queue q).codes.2.2 = _
      rw [position]; rfl
    · rw [behind 0, fields]; rfl
    · rw [behind 1, fields, ← stationOctet_of_station hp]; rfl
    · rw [behind 1, fields]
      change c.stationOctet = _
      rw [Context.stationOctet, all]
      rfl
    · rw [behind 2, fields]; rfl
    · rw [behind 3, fields]; rfl
    · rw [behind 4, fields]; rfl
    · rw [behind 5, fields]; rfl
    · rw [behind 6, fields, ← countOctet_of_some some]; rfl
    · rw [show 11 + k = 4 + (7 + k) by omega, behind, fields]
      refine (getD_append_at rfl k).trans ?_
      exact padded_getD hk (by rw [List.getElem?_map, ho]; rfl)

/-- Settles O53. -/
theorem readCommandsReportAndChangeNothing : Obligations.ReadCommandsReportAndChangeNothing := by
  unfold Obligations.ReadCommandsReportAndChangeNothing
  refine ⟨outcomeOctets, fun d s hl hs => ?_, fun q s hl hs => queueReadReports hl hs q, fun p s hl hs => ?_,
    fun n s hl hs => ?_⟩
  · refine ⟨s.descData d, exec_descRead hl hs d, ?_, ?_, fun k p o hk ho => ?_⟩
    · rw [descData_eq, List.length_append, descFront_length, perDestOctets_length]
    · exact descData_front s d (kindOctet_eq ..).symm (destinationOctet_eq _).symm
        (by cases (s.desc d).host.link <;> rfl) (by cases (s.desc d).holder <;> rfl)
    · obtain ⟨station, outcome⟩ := perDestOctets_getD hk ho
      rw [descData_eq, ← station, ← outcome]
      constructor
      · rw [show 18 + 2 * k = 17 + (1 + 2 * k) by omega, getD_append_at (descFront_length s d)]
      · rw [show 19 + 2 * k = 17 + (2 + 2 * k) by omega, getD_append_at (descFront_length s d)]
  · obtain ⟨state, epoch⟩ := peerOctets_head (s.peer p)
    refine ⟨_, exec_peerRead hl hs p, peerOctets_length _, ?_, ?_, fun i => ?_⟩
    · rw [state]; cases (s.peer p).state <;> rfl
    · rw [epoch]; cases (s.peer p).epoch <;> rfl
    · obtain ⟨pair, lock, hint, record⟩ := pairOctets_getD (s.peer p) i
      refine ⟨pair, lock.trans ?_, hint.trans ?_, record.trans ?_⟩
      · change finOr (s.sendPair p i).lock = _
        cases (s.sendPair p i).lock <;> rfl
      · change finOr (s.hint p i) = _
        cases s.hint p i <;> rfl
      · change finOr (s.receivePair p i) = _
        cases s.receivePair p i <;> rfl
  · refine ⟨fun beyond => ?_, fun beyond => ?_, fun beyond => ?_⟩
    · refine exec_refused hl rfl rfl (.inr hs) (st := .refusedArg) ?_ (by decide)
      simp only [State.perform, State.descReadAnswer, indexField_beyond beyond]
    · refine exec_refused hl rfl rfl (.inr hs) (st := .refusedArg) ?_ (by decide)
      simp only [State.perform, State.queueReadAnswer, indexField_beyond beyond]
    · refine exec_refused hl rfl rfl (.inr hs) (st := .refusedArg) ?_ (by decide)
      simp only [State.perform, State.peerReadAnswer, indexField_beyond beyond]

/-! ### LOG_TAKE -/

/-- R149: the waiting queue with the lowest number. -/
theorem firstWaiting_eq_none {s : State} (h : ∀ q : QueueIx, (s.queue q).waitsForRoom = false) :
    s.firstWaiting = none := by
  unfold State.firstWaiting
  rw [List.find?_eq_none]
  exact fun q _ => by rw [h]; exact nofun

theorem firstWaiting_eq_some {s : State} {q : QueueIx} (waits : (s.queue q).waitsForRoom = true)
    (first : ∀ j < q, (s.queue j).waitsForRoom = false) : s.firstWaiting = some q := by
  unfold State.firstWaiting
  rw [List.find?_eq_some_iff_getElem]
  refine ⟨waits, q.val, by rw [List.length_finRange]; exact q.isLt, by simp, fun j hj => ?_⟩
  rw [List.getElem_finRange, Bool.not_eq_true']
  exact first _ hj

theorem recordOctets (r : CompletionRecord) : r.octets =
    [octet r.queue.val, octet r.descriptor.val, octet r.outcome.code, octet r.attempts, octet r.late] ++
      perDestOctets r.perDest := rfl

end Sys2Proof.Machine
end

section
/-!
PROOFS. What a queue that arrives at a descriptor leaves alone (R63, R71, R72, R79): the disarmed descriptors, the
records already in the log, the other queues, and of every pair all but a free lock.
-/

namespace Sys2Proof.Machine

/-! ### What an arriving queue leaves alone -/

/-- The state `t` is `s` after takings and hand-backs of queue `q`. -/
structure LeavesOthers (q : QueueIx) (s t : State) : Prop where
  disarmed : ∀ d, (s.desc d).armed = false → t.desc d = s.desc d
  log : s.log <+: t.log
  queue : ∀ r, r ≠ q → t.queue r = s.queue r
  hint : ∀ p i, t.hint p i = s.hint p i
  anchor : ∀ p i, (t.sendPair p i).anchor = (s.sendPair p i).anchor
  blind : ∀ p i, (t.sendPair p i).blind = (s.sendPair p i).blind
  locked : ∀ p i, (s.sendPair p i).lock ≠ none → t.sendPair p i = s.sendPair p i

namespace LeavesOthers

variable {q : QueueIx} {s t u : State}

theorem refl : LeavesOthers q s s :=
  ⟨fun _ _ => rfl, List.prefix_rfl, fun _ _ => rfl, fun _ _ => rfl, fun _ _ => rfl, fun _ _ => rfl, fun _ _ _ => rfl⟩

theorem trans (h : LeavesOthers q s t) (k : LeavesOthers q t u) : LeavesOthers q s u where
  disarmed d hd := by rw [k.disarmed d (by rwa [h.disarmed d hd]), h.disarmed d hd]
  log := h.log.trans k.log
  queue r hr := by rw [k.queue r hr, h.queue r hr]
  hint p i := by rw [k.hint, h.hint]
  anchor p i := by rw [k.anchor, h.anchor]
  blind p i := by rw [k.blind, h.blind]
  locked p i hl := by rw [k.locked p i (by rwa [h.locked p i hl]), h.locked p i hl]

/-- Where neither the store, nor the log, nor the peer table changes. -/
theorem of_queues (store : t.store = s.store) (log : t.log = s.log) (peers : t.peers = s.peers)
    (queue : ∀ r, r ≠ q → t.queue r = s.queue r) : LeavesOthers q s t where
  disarmed d _ := by simp only [State.desc, store]
  log := by rw [log]
  queue := queue
  hint p i := by simp only [State.hint, State.peer, peers]
  anchor p i := by simp only [State.sendPair, State.peer, peers]
  blind p i := by simp only [State.sendPair, State.peer, peers]
  locked p i _ := by simp only [State.sendPair, State.peer, peers]

theorem setQueue (x : QueueState) : LeavesOthers q s (s.setQueue q x) :=
  of_queues rfl rfl rfl fun r hr => by rw [setQueue_queue, if_neg (Ne.symm hr)]

/-- A descriptor that was armed is written. -/
theorem setDesc {d : DescIx} (x : Descriptor) (armed : (s.desc d).armed = true) :
    LeavesOthers q s (s.setDesc d x) where
  disarmed e he := by
    rw [setDesc_desc, if_neg]
    rintro rfl
    rw [armed] at he
    cases he
  log := List.prefix_rfl
  queue _ _ := rfl
  hint _ _ := rfl
  anchor _ _ := rfl
  blind _ _ := rfl
  locked _ _ _ := rfl

theorem appendRecord (r : CompletionRecord) : LeavesOthers q s (s.appendRecord r) where
  disarmed _ _ := rfl
  log := List.prefix_append ..
  queue _ _ := rfl
  hint _ _ := rfl
  anchor _ _ := rfl
  blind _ _ := rfl
  locked _ _ _ := rfl

/-- A lock that was free is taken. -/
theorem setLock {p : Station} {i : InboxIx} (l : Option QueueIx) (free : (s.sendPair p i).lock = none) :
    LeavesOthers q s (s.setLock p i l) where
  disarmed _ _ := rfl
  log := List.prefix_rfl
  queue _ _ := rfl
  hint r j := by rw [State.setLock, setSendPair_hint]
  anchor r j := by
    rw [State.setLock, setSendPair_sendPair]
    split
    · next e => rw [← e.1, ← e.2]
    · rfl
  blind r j := by
    rw [State.setLock, setSendPair_sendPair]
    split
    · next e => rw [← e.1, ← e.2]
    · rfl
  locked r j hl := by
    rw [State.setLock, setSendPair_sendPair, if_neg]
    rintro ⟨rfl, rfl⟩
    exact hl free

theorem readHint (c : Context) (p : Station) (i : InboxIx) : LeavesOthers q s (s.readHint q c p i) := by
  unfold State.readHint; split <;> exact setQueue _

theorem beginStep (c : Context) : LeavesOthers q s (s.beginStep q c) := by
  unfold State.beginStep State.takeLock
  split
  · split
    · next free => exact (setLock _ free).trans (readHint ..)
    · exact setQueue _
  · exact setQueue _

theorem beginSteps {c : Context} {left : Nat} (h : s.beginSteps q c left = .underWay t) :
    LeavesOthers q s t := by
  induction left generalizing c with
  | zero =>
    rw [beginSteps_zero] at h
    split at h
    · cases h
    · cases h; exact beginStep _
  | succ n ih =>
    rw [beginSteps_succ] at h
    split at h
    · exact ih h
    · cases h; exact beginStep _

theorem enterWaiting (x : QueueState) : LeavesOthers q s (s.enterWaiting q x) := by
  unfold State.enterWaiting
  split
  · exact setQueue x
  · exact of_queues rfl rfl rfl fun r hr => (setQueue (q := q) x).queue r hr

/-- The descriptor that a settled message is handed back to was armed. -/
theorem handBack {c : Context} (armed : (s.desc c.head).armed = true) : LeavesOthers q s (s.handBack q c) := by
  unfold State.handBack State.writeBack
  split
  · exact (setDesc _ armed).trans (appendRecord _)
  · exact setDesc _ armed

end LeavesOthers

/-- A message whose destinations are all decided is still the one that was taken. -/
theorem beginSteps_decided_head {s t : State} {q : QueueIx} {c c' : Context} {left : Nat}
    (h : s.beginSteps q c left = .decided c' t) : c'.head = c.head := by
  induction left generalizing c with
  | zero =>
    rw [beginSteps_zero] at h
    split at h
    · cases h; rfl
    · cases h
  | succ n ih =>
    rw [beginSteps_succ] at h
    split at h
    · exact ih (c := c.passedOver) h
    · cases h

section
variable {s t : State} {q : QueueIx} {d : DescIx}

/-- R63: an available descriptor taken, and what its message has come to at once. -/
theorem takeDescriptor_leaves (av : s.available d = true) :
    (∀ t, s.takeDescriptor q d = .underWay t → LeavesOthers q s t) ∧
      ∀ c t, s.takeDescriptor q d = .decided c t →
        LeavesOthers q s t ∧ c.head = d ∧ (t.desc d).armed = true := by
  have armed : (s.desc d).armed = true := by
    unfold State.available at av
    exact (Bool.and_eq_true_iff.mp av).1
  have taken : LeavesOthers q s ((s.setDesc d { s.desc d with holder := some q }).setQueue q
      (.running (s.newContext d))) := (LeavesOthers.setDesc _ armed).trans (.setQueue _)
  have still : (((s.setDesc d { s.desc d with holder := some q }).setQueue q
      (.running (s.newContext d))).desc d).armed = true := by
    change ((s.setDesc d _).desc d).armed = true
    rw [setDesc_desc, if_pos rfl]
    exact armed
  unfold State.takeDescriptor
  dsimp only
  split
  · refine ⟨fun t ht => taken.trans (.beginSteps ht), fun c t ht => ?_⟩
    obtain ⟨rfl, -⟩ := beginSteps_decided ht
    exact ⟨taken, beginSteps_decided_head ht, still⟩
  · refine ⟨by simp, fun c t ht => ?_⟩
    cases ht
    exact ⟨taken, rfl, still⟩

theorem arrive_leaves (s : State) (q : QueueIx) (d : DescIx) (fuel : Nat) :
    LeavesOthers q s (s.arrive q d fuel) := by
  induction fuel generalizing s d with
  | zero => exact .enterWaiting _
  | succ n ih =>
    unfold State.arrive
    split
    · next av =>
      obtain ⟨underWay, decided⟩ := takeDescriptor_leaves (q := q) av
      split
      · next t ht => exact underWay t ht
      · next c t ht =>
        obtain ⟨leaves, rfl, armed⟩ := decided c t ht
        split
        · exact leaves.trans (.setQueue _)
        · have handed := leaves.trans (.handBack (q := q) armed)
          dsimp only
          split
          · exact handed.trans (.enterWaiting _)
          · exact handed.trans (ih _ _)
    · exact .enterWaiting _

theorem followLink_leaves (s : State) (q : QueueIx) (d : DescIx) : LeavesOthers q s (s.followLink q d) := by
  unfold State.followLink
  split
  · exact .enterWaiting _
  · exact arrive_leaves ..

end

/-! ### LOG_TAKE -/

theorem writeBack_desc (s : State) (c : Context) : (s.writeBack c).desc c.head = { s.desc c.head with
    armed := false, holder := none, outcome := some c.settledOutcome, attempts := c.attempts,
    late := c.late, perDest := c.perDest } := by
  rw [State.writeBack, setDesc_desc, if_pos rfl]

theorem perform_logTake {s : State} {r : CompletionRecord} {rest : List CompletionRecord} (h : s.log = r :: rest) :
    s.perform .logTake =
      { state := (s.setLog rest).serveLog, status := .done, data := octet rest.length :: r.octets } := by
  simp only [State.perform, State.logTakeAnswer, h]

/-- Settles O52. -/
theorem logTakeReportsTheOldestAndServesOne : Obligations.LogTakeReportsTheOldestAndServesOne := by
  unfold Obligations.LogTakeReportsTheOldestAndServesOne
  refine ⟨outcomeOctets, fun s hl hs => ⟨fun empty => ?_, fun r rest log => ?_⟩⟩
  · refine exec_refused hl rfl rfl (.inr hs) (st := .empty) ?_ (by decide)
    simp only [State.perform, State.logTakeAnswer, empty]
  refine ⟨_, _, exec_data hl rfl rfl (.inr hs) (perform_logTake log), ?_, ?_, fun k p o hk ho => ?_,
    fun none => ?_, fun q c waits first => ?_⟩
  · rw [recordOctets, List.length_cons, List.length_append, perDestOctets_length]; rfl
  · rw [recordOctets]; rfl
  · obtain ⟨station, outcome⟩ := perDestOctets_getD hk ho
    have behind (n : Nat) : (octet rest.length :: r.octets).getD (6 + n) 0 = (perDestOctets r.perDest).getD n 0 := by
      rw [recordOctets]
      exact getD_append_at (l := [octet rest.length, octet r.queue.val, octet r.descriptor.val,
        octet r.outcome.code, octet r.attempts, octet r.late]) rfl n
    rw [← station, ← outcome, ← behind, ← behind]
    exact ⟨congrArg (List.getD _ · 0) (by omega), congrArg (List.getD _ · 0) (by omega)⟩
  · rw [State.serveLog, firstWaiting_eq_none (s := s.setLog rest) none]
  · have waiting : (s.queue q).waitsForRoom = true := by
      rcases waits with h | ⟨h, settled⟩ <;> rw [h]
      · rfl
      · exact settled
    have served := firstWaiting_eq_some (s := s.setLog rest) waiting first
    have handed : (((s.setLog rest).writeBack c).appendRecord (c.completion q)).desc c.head = { s.desc c.head with
        armed := false, holder := none, outcome := some c.settledOutcome, attempts := c.attempts,
        late := c.late, perDest := c.perDest } := writeBack_desc (s.setLog rest) c
    have whole : (rest ++ [c.completion q]).take (rest.length + 1) = rest ++ [c.completion q] :=
      List.take_of_length_le (by rw [List.length_append]; exact Nat.le_refl _)
    rw [State.serveLog, served]
    dsimp only
    rcases waits with h | ⟨h, settled⟩
    · rw [show (s.setLog rest).serveQueue q = (((s.setLog rest).writeBack c).appendRecord
        (c.completion q)).followLink q c.head by
          unfold State.serveQueue
          rw [show (s.setLog rest).queue q = .blockedLog c from h]]
      have leaves := followLink_leaves (((s.setLog rest).writeBack c).appendRecord (c.completion q)) q c.head
      refine ⟨?_, ?_, fun stopping => ?_⟩
      · obtain ⟨more, hmore⟩ := leaves.log
        rw [← hmore]
        change ((rest ++ [c.completion q]) ++ more).take _ = _
        rw [List.take_append_of_le_length (by rw [List.length_append]; exact Nat.le_refl _), whole]
      · rw [leaves.disarmed c.head (by rw [handed]), handed]
      · rw [h] at stopping; cases stopping
    · rw [show (s.setLog rest).serveQueue q = (((s.setLog rest).writeBack c).appendRecord
        (c.completion q)).setQueue q .stopped by
          unfold State.serveQueue
          rw [show (s.setLog rest).queue q = .stopping c from h]
          exact if_pos settled]
      exact ⟨whole, handed, fun _ => ⟨by rw [setQueue_queue, if_pos rfl], rfl⟩⟩

end Sys2Proof.Machine
end

section
/-!
PROOFS. The bit time that passes while no command waits: what moves, and which events fall due (R15, R17, R21 to
R23, R28, R30, R32, R35, R40, R43, R124, R125; log entries 3 to 5 and 27).
-/

namespace Sys2Proof.Machine

section
variable {s : State}

/-! ### A bit time -/

/-- With no command waiting a step is one bit time. -/
theorem step_of_idle (h : s.pending = []) : step s = .next (s.advance.setPending s.advance.dueEvents) := by
  rw [step, h]; rfl

theorem advance_queue_held {q : QueueIx} {c : Context} (h : s.queue q = .held c) :
    s.advance.queue q = .held { c with hold := c.hold.map (· - 1) } := by
  rw [advance_queue, h]; rfl

theorem advance_queue_other {q : QueueIx} (h : ∀ c, s.queue q ≠ .held c) : s.advance.queue q = s.queue q := by
  rw [advance_queue]
  cases hq : s.queue q with
  | held c => exact absurd hq (h c)
  | _ => rfl

theorem advance_peers : s.advance.peers = { s.peers with
    entries := mapTable (fun _ e => e.tick) s.peers.entries,
    presenceTimer := s.peers.presenceTimer.map (· + 1) } := rfl

/-- Settles O3. -/
theorem bitTimeMovesOnlyTheCounts : Obligations.BitTimeMovesOnlyTheCounts := by
  unfold Obligations.BitTimeMovesOnlyTheCounts
  intro s h
  refine ⟨_, step_of_idle h, ?_, ?_, ?_, ?_, ?_, ?_, rfl, rfl, rfl, rfl, rfl, rfl, rfl, rfl, rfl, rfl, rfl, rfl⟩
  · rw [setPending_claim]
    simp only [State.advance, decide_eq_true_eq]
    rfl
  · rw [setPending_peers, advance_peers]
  · rw [setPending_peers, advance_peers]
  · intro p
    change s.advance.peer p = _
    rw [advance_peer]
    rfl
  · intro q c hq
    change s.advance.queue q = _
    rw [advance_queue_held hq]
  · intro q hq
    change s.advance.queue q = _
    rw [advance_queue_other hq]

/-! ### What is due -/

theorem mem_dueIf {b : Bool} {c d : Instr} : c ∈ dueIf b d ↔ b = true ∧ c = d := by
  cases b <;> simp [dueIf]

theorem mem_dueEvents {c : Instr} : c ∈ s.dueEvents ↔
    (s.trunk.transmission.any (·.atEnd) = true ∧ c = .transmissionComplete) ∨
    (runDown s.claim.quietTimer = true ∧ c = .quietTimerExpiry) ∨
    (s.joinDue = true ∧ c = .joinQuiet) ∨
    (∃ p : Station, reached (s.peer p).silence s.silenceTicks = true ∧ c = .silenceTimerExpiry p) ∨
    (reached s.peers.presenceTimer s.presenceTicks = true ∧ c = .presenceTimerExpiry) ∨
    (∃ q : QueueIx, (s.queue q).holdOver = true ∧ c = .holdTimerExpiry q) ∨
    ((s.trunk.line = .idle ∧ s.trunk.reply.isSome = true ∧ replyTime ≤ s.claim.idleTime) ∧ c = .replyStart) ∨
    ((s.trunk.line = .idle ∧ s.trunk.watch.isSome = true ∧ watchTime ≤ s.claim.idleTime) ∧ c = .replyWatchTimeout) ∨
    ((s.trunk.line = .idle ∧ slotBeginsAt s.slotNow s.claim.idleTime = true) ∧ c = .slotBegin false) := by
  simp only [State.dueEvents, List.mem_append, mem_dueIf, List.mem_map, List.mem_filter, List.mem_finRange,
    true_and, Bool.and_eq_true, decide_eq_true_eq, and_assoc, or_assoc, eq_comm (a := c)]

theorem reached_map_iff {timer : Option Nat} {limit : Nat} :
    reached (timer.map (· + 1)) limit = true ↔ ∃ n, timer = some n ∧ limit ≤ n + 1 := by
  cases timer <;> simp [reached]

theorem runDown_map_iff {timer : Option Nat} :
    runDown (timer.map (· - 1)) = true ↔ ∃ n, timer = some n ∧ n ≤ 1 := by
  cases timer <;> simp [runDown, Nat.sub_eq_zero_iff_le]

theorem holdOver_iff {st : QueueState} :
    st.tick.holdOver = true ↔ ∃ c n, st = .held c ∧ c.hold = some n ∧ n ≤ 1 := by
  cases st with
  | held c =>
    change runDown (c.hold.map (· - 1)) = true ↔ _
    rw [runDown_map_iff]
    simp
  | _ => simp [QueueState.tick, QueueState.holdOver]

theorem advance_idleTime (h : s.trunk.line = .idle) : s.advance.claim.idleTime = s.claim.idleTime + 1 := by
  have idle : decide (s.trunk.line = .idle) = true := decide_eq_true h
  simp only [State.advance, idle]
  rfl

theorem advance_settings : s.advance.settings = s.settings ∧ s.advance.straps = s.straps := ⟨rfl, rfl⟩

/-- Settles O5. -/
theorem timedEventsFallDueAtTheirLimits : Obligations.TimedEventsFallDueAtTheirLimits := by
  unfold Obligations.TimedEventsFallDueAtTheirLimits
  intro s h
  refine ⟨_, step_of_idle h, ?_, ?_, ?_, ?_, fun set hset => ⟨fun p => ?_, ?_⟩, fun q => ?_⟩ <;>
    rw [setPending_pending, mem_dueEvents]
  · simp only [reduceCtorEq, and_false, exists_false, false_or, or_false, and_true]
    exact reached_map_iff
  · simp only [reduceCtorEq, and_false, exists_false, false_or, or_false, and_true]
    exact runDown_map_iff
  · simp only [reduceCtorEq, and_false, exists_false, false_or, or_false, and_true]
    refine and_congr_right fun idle => ?_
    rw [advance_idleTime (s := s) idle]
    rfl
  · simp only [reduceCtorEq, and_false, exists_false, false_or, or_false, and_true]
    refine and_congr_right fun idle => ?_
    rw [advance_idleTime (s := s) idle]
    rfl
  · simp only [reduceCtorEq, and_false, exists_false, false_or, or_false, Instr.silenceTimerExpiry.injEq]
    have limit : s.advance.silenceTicks = 3 * (8 * 2 ^ set.presence.val) * bitTimesPerMs s.straps.rate := by
      rw [State.silenceTicks, advance_settings.1, hset]; rfl
    rw [limit, exists_eq_right']
    simp only [advance_peer]
    exact reached_map_iff
  · simp only [reduceCtorEq, and_false, exists_false, false_or, or_false, and_true]
    have limit : s.advance.presenceTicks = 8 * 2 ^ set.presence.val * bitTimesPerMs s.straps.rate := by
      rw [State.presenceTicks, advance_settings.1, hset]; rfl
    rw [limit]
    exact reached_map_iff
  · simp only [reduceCtorEq, and_false, exists_false, false_or, or_false, Instr.holdTimerExpiry.injEq]
    rw [exists_eq_right', advance_queue]
    exact holdOver_iff

/-! ### Slots -/

/-- R22. -/
theorem ownSlot_val (a L : Station) : (ownSlot a L).val = (a.val + 31 - L.val) % 32 := by
  rw [ownSlot, Fin.sub_def, Fin.sub_def]
  change (32 - (1 : Nat) + (32 - L.val + a.val) % 32) % 32 = _
  omega

/-- R21. -/
theorem slotBeginsAt_iff (k : Station) (idle : Nat) :
    slotBeginsAt k idle = true ↔ ∃ m, idle = 16 + 4 * k.val + 128 * m := by
  have small := k.isLt
  rw [slotBeginsAt, Bool.and_eq_true, decide_eq_true_eq, beq_iff_eq]
  change 16 ≤ idle ∧ (idle - 16) % 128 = 4 * k.val ↔ _
  constructor
  · rintro ⟨gap, slot⟩
    exact ⟨(idle - 16) / 128, by omega⟩
  · rintro ⟨m, rfl⟩
    omega

/-- Settles O4. -/
theorem ownSlotBeginsAtItsIdleTime : Obligations.OwnSlotBeginsAtItsIdleTime := by
  unfold Obligations.OwnSlotBeginsAtItsIdleTime
  refine ⟨fun s h unjoined => ⟨_, step_of_idle h, ?_⟩, fun L slot => ?_, fun L => ?_, fun a => ?_,
    slotBeginsAt_iff⟩
  · rw [setPending_pending, mem_dueEvents]
    simp only [reduceCtorEq, and_false, exists_false, false_or, and_true]
    have slot : s.advance.slotNow = ownSlot s.own s.claim.lastWinner := by
      have joined : s.advance.joinDue = false := by
        change reached (s.claim.joinCount.map (· + 1)) joinQuietTime = false
        rw [unjoined]; rfl
      rw [State.slotNow, joined]; rfl
    refine and_congr_right fun idle => ?_
    rw [slot, advance_idleTime (s := s) idle, slotBeginsAt_iff, ownSlot_val]
  · refine ⟨slot + 1 + L, ?_, fun a ha => ?_⟩
    · simp [ownSlot]
    · rw [← ha, ownSlot]; simp
  · exact ⟨by rw [ownSlot, sub_self]; rfl, by rw [ownSlot, add_sub_cancel_left, sub_self]⟩
  · revert a; decide

end

end Sys2Proof.Machine
end

section
/-!
PROOFS. The ends of activities, step by step (R3, R13, R14, R20, R30, R33, R157 to R166): what the line's end leaves,
what the reports to the blocks keep of the station, and what the finding on an own transmission comes to.
-/

namespace Sys2Proof.Machine

/-! ### The end of the line's activity -/

/-- R2, R3, R33: the line has become IDLE, before the blocks are told. -/
def State.afterActivity (s : State) (octets : List Octet) : State :=
  (s.activityBegins.keepOctets octets).lineEnds

section
variable (s : State) (octets : List Octet)

theorem activityBegins_eq : s.activityBegins = { s with
    trunk := { s.trunk with
      line := if s.trunk.line = .idle then .activeRx else s.trunk.line,
      received := if s.trunk.line = .idle then [] else s.trunk.received,
      receivedCount := if s.trunk.line = .idle then 0 else s.trunk.receivedCount,
      reply := if s.trunk.line = .idle then none else s.trunk.reply },
    claim := { s.claim with joinCount := if s.trunk.line = .idle then none else s.claim.joinCount } } := by
  unfold State.activityBegins
  split <;> rfl

/-- The end of an activity where no LEAVE is deferred. -/
theorem afterActivity_eq (h : s.claim.leaveDeferred = false) : s.afterActivity octets = { s with
    trunk := { s.trunk with
      line := .idle, unseenStart := false, received := octets.take 521, receivedCount := octets.length,
      reply := if s.trunk.line = .idle then none else s.trunk.reply },
    claim := { s.claim with
      idleTime := 0, joinCount := if s.trunk.line = .idle then none else s.claim.joinCount } } := by
  unfold State.afterActivity
  rw [activityBegins_eq]
  simp only [State.keepOctets, State.lineEnds, State.finishLeave, h, setClaim_claim, setTrunk_claim,
    Bool.false_eq_true, if_false, ite_self]
  rfl

/-- R33: the end of the own transmission's activity does a deferred LEAVE. -/
theorem afterActivity_left (h : s.claim.leaveDeferred = true) (line : s.trunk.line = .activeTx) :
    s.afterActivity octets = { s with
      trunk := { s.trunk with
        line := .idle, unseenStart := false, received := octets.take 521, receivedCount := octets.length,
        reply := none },
      claim := { s.claim with
        state := .offline, idleTime := 0, joinCount := none, quietTimer := none, leaveDeferred := false } } := by
  have begun : s.activityBegins = s := by
    unfold State.activityBegins
    rw [if_neg (by rw [line]; exact nofun)]
  unfold State.afterActivity
  rw [begun]
  simp only [State.keepOctets, State.lineEnds, State.finishLeave, h, setClaim_claim, setTrunk_claim, line,
    setTrunk_trunk, if_true]
  rfl

theorem afterActivity_receiver : ReceiverKeeps s (s.afterActivity octets) :=
  ((activityBegins_receiver s).trans (keepOctets_receiver ..)).trans (lineEnds_receiver _)

theorem activityBegins_claim : s.activityBegins.claim.leaveDeferred = s.claim.leaveDeferred ∧
    s.activityBegins.claim.state = s.claim.state ∧ s.activityBegins.claim.lastWinner = s.claim.lastWinner := by
  rw [activityBegins_eq]
  exact ⟨rfl, rfl, rfl⟩

/-- What the end of any activity leaves of the claim unit. -/
theorem afterActivity_claim : (s.afterActivity octets).claim.lastWinner = s.claim.lastWinner ∧
    (s.afterActivity octets).trunk.line = .idle ∧
    ((s.afterActivity octets).claim.state = s.claim.state ∨
      s.claim.leaveDeferred = true ∧ (s.afterActivity octets).claim.state = .offline) := by
  obtain ⟨leave, state, last⟩ := activityBegins_claim s
  unfold State.afterActivity State.lineEnds
  dsimp only
  split
  · unfold State.finishLeave
    split
    · next deferred => exact ⟨last, rfl, .inr ⟨leave.symm.trans deferred, rfl⟩⟩
    · exact ⟨last, rfl, .inl state⟩
  · exact ⟨last, rfl, .inl state⟩

end

/-! ### The commands that end an activity -/

section
variable {s : State}

theorem exec_invalidActivityEnd (h : s.trunk.line ≠ .stuck) (line : List Character) :
    exec (.invalidActivityEnd line) s = .next (s.activityBegins.invalidEnds (assemble line).octets) := by
  simp only [exec, execInvalidActivityEnd]
  cases hl : s.trunk.line with
  | stuck => exact absurd hl h
  | idle | activeRx | activeTx => rfl

theorem exec_validFrameEnd_ends (h : s.trunk.line ≠ .stuck) (line : List Character) :
    exec (.validFrameEnd line) s = .next (s.activityBegins.activityEnds line) := by
  simp only [exec, execValidFrameEnd]
  cases hl : s.trunk.line with
  | stuck => exact absurd hl h
  | idle | activeRx | activeTx => rfl

theorem exec_validFrameEnd_stuck (h : s.trunk.line = .stuck) (line : List Character) :
    exec (.validFrameEnd line) s = .next s := by
  simp only [exec, execValidFrameEnd, h]

theorem exec_invalidActivityEnd_stuck (h : s.trunk.line = .stuck) (line : List Character) :
    exec (.invalidActivityEnd line) s = .next s := by
  simp only [exec, execInvalidActivityEnd, h]

theorem exec_lineFoundStuck (h : s.trunk.line ≠ .stuck) (line : List Character) :
    exec (.lineFoundStuck line) s = .next (s.activityBegins.lineStuck (assemble line).octets) := by
  simp only [exec, execLineFoundStuck]
  cases hl : s.trunk.line with
  | stuck => exact absurd hl h
  | idle | activeRx | activeTx => rfl

/-- R13: the end of invalid activity in a configured state. -/
theorem exec_invalidActivityEnd_configured (h : s.trunk.line ≠ .stuck) (hs : s.settings.isSome = true)
    (line : List Character) : exec (.invalidActivityEnd line) s =
      .next ((((s.afterActivity (assemble line).octets).claimInvalid.countInvalid).closeWatch none).finding
        false) := by
  have configured : (s.afterActivity (assemble line).octets).configured = true :=
    (afterActivity_receiver s _).configured.trans hs
  rw [exec_invalidActivityEnd h, State.invalidEnds]
  exact congrArg Host.Outcome.next (if_pos configured)

/-- R14: the end of a valid frame in a configured state. -/
theorem exec_validFrameEnd_configured {line : List Character} {f : Frame} (hj : judge line = some f)
    (hend : s.canEnd) (hs : s.settings.isSome = true) : exec (.validFrameEnd line) s =
      .next ((s.afterActivity (assemble line).octets).frameReported f (decide (s.claim.state = .active))
        s.ownFrame) := by
  have configured : (s.afterActivity (assemble line).octets).configured = true :=
    (afterActivity_receiver s _).configured.trans hs
  have own : s.activityBegins.ownFrame = s.ownFrame := by
    simp only [State.ownFrame, (activityBegins_receiver s).transmission]
  rw [exec_validFrameEnd_judged hj hend, State.validEnds, own, (activityBegins_claim s).2.1]
  exact congrArg Host.Outcome.next (if_pos configured)

/-- R4, R12: an activity that is judged no valid frame, or was not seen from its beginning, is invalid. -/
theorem exec_validFrameEnd_invalid {line : List Character} (h : judge line = none ∨ s.trunk.unseenStart = true) :
    exec (.validFrameEnd line) s = exec (.invalidActivityEnd line) s := by
  by_cases stuck : s.trunk.line = .stuck
  · rw [exec_validFrameEnd_stuck stuck, exec_invalidActivityEnd_stuck stuck]
  · have unseen : s.activityBegins.trunk.unseenStart = s.trunk.unseenStart := by rw [activityBegins_eq]
    have judged : (if s.activityBegins.trunk.unseenStart then none else judge line) = none := by
      rw [unseen]
      rcases h with h | h
      · rw [h, ite_self]
      · rw [h]; rfl
    rw [exec_validFrameEnd_ends stuck, exec_invalidActivityEnd stuck, State.activityEnds, judged]

end

/-! ### What the reports to the blocks keep of the station -/

/-- The claim unit, the line and a transmission are as they were; so are the settings. -/
structure StationKeeps (s t : State) : Prop where
  straps : t.straps = s.straps
  settings : t.settings = s.settings
  claim : t.claim = s.claim
  line : t.trunk.line = s.trunk.line
  transmission : t.trunk.transmission = s.trunk.transmission
  received : t.trunk.received = s.trunk.received
  receivedCount : t.trunk.receivedCount = s.trunk.receivedCount

namespace StationKeeps

variable {s t u : State}

theorem refl (s : State) : StationKeeps s s := ⟨rfl, rfl, rfl, rfl, rfl, rfl, rfl⟩

theorem trans (h : StationKeeps s t) (k : StationKeeps t u) : StationKeeps s u :=
  ⟨k.straps.trans h.straps, k.settings.trans h.settings, k.claim.trans h.claim, k.line.trans h.line,
    k.transmission.trans h.transmission, k.received.trans h.received, k.receivedCount.trans h.receivedCount⟩

theorem own (h : StationKeeps s t) : t.own = s.own := by simp only [State.own, h.straps]

theorem configured (h : StationKeeps s t) : t.configured = s.configured := by
  simp only [State.configured, h.settings]

end StationKeeps

theorem EngineKeeps.station {s t : State} (k : EngineKeeps s t) : StationKeeps s t :=
  ⟨k.straps, k.settings, k.claim, by rw [k.trunk], by rw [k.trunk], by rw [k.trunk], by rw [k.trunk]⟩

section
variable (s : State)

theorem hear_station (p : Station) (e : Epoch) (fresh : Bool) : StationKeeps s (s.hear p e fresh) := by
  have heard := hear_receiver s p e fresh
  exact ⟨heard.straps, heard.settings, hear_claim .., by rw [hear_trunk], by rw [hear_trunk], by rw [hear_trunk],
    by rw [hear_trunk]⟩

theorem observe_station (f : Frame) (own : Bool) : StationKeeps s (s.observe f own) := by
  unfold State.observe
  split
  · split <;> exact ⟨rfl, rfl, rfl, rfl, rfl, rfl, rfl⟩
  · split
    · exact .refl s
    · exact hear_station ..

theorem countInvalid_station : StationKeeps s s.countInvalid := by
  constructor <;> simp

theorem countCollision_station : StationKeeps s s.countCollision := by
  constructor <;> simp

theorem countNoReply_station : StationKeeps s s.countNoReply := by
  constructor <;> simp

theorem countDrop_station : StationKeeps s s.countDrop := by
  constructor <;> simp

theorem arrival_station (f : Frame) (active : Bool) : StationKeeps s (s.arrival f active) := by
  unfold State.arrival
  split
  · exact .refl s
  · split
    case h_1 payload =>
      unfold State.bcastArrives; split
      · exact ⟨rfl, rfl, rfl, rfl, rfl, rfl, rfl⟩
      · refine StationKeeps.trans ?_ (countDrop_station _)
        exact ⟨rfl, rfl, rfl, rfl, rfl, rfl, rfl⟩
    case h_2 seq payload =>
      split
      · unfold State.dataArrives; split <;> exact ⟨rfl, rfl, rfl, rfl, rfl, rfl, rfl⟩
      · exact .refl s
    case h_3 => split <;> exact ⟨rfl, rfl, rfl, rfl, rfl, rfl, rfl⟩
    case h_4 word value =>
      split
      · unfold State.noticeArrives; dsimp only; split <;> exact ⟨rfl, rfl, rfl, rfl, rfl, rfl, rfl⟩
      · exact .refl s
    all_goals exact .refl s

theorem creditHeard_station (f : Frame) (own : Bool) : StationKeeps s (s.creditHeard f own) := by
  unfold State.creditHeard
  split
  · split
    · exact .refl s
    · exact ((setHint_keeps ..).trans (releaseHeld_keeps ..)).station
  · exact .refl s

theorem closeWatch_station (r : Option (ReplyCode × ReplyFields)) : StationKeeps s (s.closeWatch r) := by
  refine StationKeeps.trans ?_ (closeWatch_keeps s r).station
  split
  · refine StationKeeps.trans ?_ (countNoReply_station _)
    exact ⟨rfl, rfl, rfl, rfl, rfl, rfl, rfl⟩
  · exact ⟨rfl, rfl, rfl, rfl, rfl, rfl, rfl⟩

theorem judgeWatch_station (f : Frame) : StationKeeps s (s.judgeWatch f) := by
  obtain ⟨r, hr⟩ := judgeWatch_closes s f
  rw [hr]
  exact closeWatch_station s r

/-- R14: the blocks that a valid frame is reported to before the finding on an own transmission. -/
def State.beforeFinding (s : State) (f : Frame) (active own : Bool) : State :=
  ((if own then (s.claimValid f).observe f own
    else ((s.claimValid f).observe f own).arrival f active).creditHeard f own).judgeWatch f

theorem frameReported_eq (f : Frame) (active own : Bool) :
    s.frameReported f active own = (s.beforeFinding f active own).finding true := by
  cases own <;> rfl

theorem beforeFinding_station (f : Frame) (active own : Bool) :
    StationKeeps (s.claimValid f) (s.beforeFinding f active own) := by
  have heard := observe_station (s.claimValid f) f own
  have arrived : StationKeeps (s.claimValid f) (if own then (s.claimValid f).observe f own
      else ((s.claimValid f).observe f own).arrival f active) := by
    split
    · exact heard
    · exact heard.trans (arrival_station ..)
  exact (arrived.trans (creditHeard_station ..)).trans (judgeWatch_station ..)

/-! ### The finding on an own transmission -/

theorem State.finding_eq {tx : Transmission} (h : s.trunk.transmission = some tx) (valid : Bool) : s.finding valid =
    if valid && tx.clean then (s.setTrunk { s.trunk with transmission := none }).itemClean tx.item
    else (s.setTrunk { s.trunk with transmission := none }).itemCollided tx.item := by
  simp only [State.finding, h]

/-- R157 to R161: the state that a collided finding leaves, but for the step of the queue whose frame it was. -/
def State.collidedBy (s : State) (item : Item) : State :=
  let s := (s.setTrunk { s.trunk with transmission := none }).countCollision
  if item.claimed then s.claimCollided else s

theorem finding_collided {tx : Transmission} (h : s.trunk.transmission = some tx) {valid : Bool}
    (hv : (valid && tx.clean) = false) : s.finding valid =
      match tx.item with
      | .queue q _ => (s.collidedBy tx.item).frameNotSent q
      | .freshStart | .credit _ | .presence | .reply => s.collidedBy tx.item := by
  have notClean : ¬ (valid && tx.clean) = true := by rw [hv]; exact Bool.false_ne_true
  refine (s.finding_eq h valid).trans ((if_neg notClean).trans ?_)
  cases tx.item <;> rfl

theorem finding_collided_keeps {tx : Transmission} (h : s.trunk.transmission = some tx) {valid : Bool}
    (hv : (valid && tx.clean) = false) : EngineKeeps (s.collidedBy tx.item) (s.finding valid) := by
  rw [finding_collided s h hv]
  split
  · exact frameNotSent_keeps ..
  all_goals exact .refl _

/-- R27, R159: the state that a clean finding leaves, but for the step of the queue whose frame it was. -/
def State.cleanBy (s : State) (item : Item) : State :=
  let s := s.setTrunk { s.trunk with transmission := none }
  let s := if item.claimed then s.setClaim { s.claim with collisionCount := 0 } else s
  match item with
  | .freshStart => s.setClaim { s.claim with freshStartPending := false }
  | .credit i => s.creditSent i
  | .queue .. | .presence | .reply => s

theorem finding_clean {tx : Transmission} (h : s.trunk.transmission = some tx) (hc : tx.clean = true) :
    s.finding true = match tx.item with
      | .queue q g => (s.cleanBy tx.item).frameSentClean q g
      | .freshStart | .credit _ | .presence | .reply => s.cleanBy tx.item := by
  refine (s.finding_eq h true).trans ((if_pos hc).trans ?_)
  cases tx.item <;> rfl

/-- What a finding leaves of the claim unit, but the collision count, the FRESH_START due and QUIET. -/
structure FindingKeeps (s t : State) : Prop where
  lastWinner : t.claim.lastWinner = s.claim.lastWinner
  lastUrgent : t.claim.lastUrgent = s.claim.lastUrgent
  lastRoutine : t.claim.lastRoutine = s.claim.lastRoutine
  joinCount : t.claim.joinCount = s.claim.joinCount
  idleTime : t.claim.idleTime = s.claim.idleTime
  leaveDeferred : t.claim.leaveDeferred = s.claim.leaveDeferred
  line : t.trunk.line = s.trunk.line
  received : t.trunk.received = s.trunk.received
  receivedCount : t.trunk.receivedCount = s.trunk.receivedCount
  state : t.claim.state = s.claim.state ∧ t.claim.quietTimer = s.claim.quietTimer ∨
    s.trunk.transmission.isSome = true ∧ s.claim.state = .active ∧ t.claim.state = .quiet

theorem FindingKeeps.of_station {t u : State} (h : FindingKeeps s t) (k : StationKeeps t u) :
    FindingKeeps s u where
  lastWinner := by rw [k.claim]; exact h.lastWinner
  lastUrgent := by rw [k.claim]; exact h.lastUrgent
  lastRoutine := by rw [k.claim]; exact h.lastRoutine
  joinCount := by rw [k.claim]; exact h.joinCount
  idleTime := by rw [k.claim]; exact h.idleTime
  leaveDeferred := by rw [k.claim]; exact h.leaveDeferred
  line := k.line.trans h.line
  received := k.received.trans h.received
  receivedCount := k.receivedCount.trans h.receivedCount
  state := by rw [k.claim]; exact h.state

theorem FindingKeeps.refl : FindingKeeps s s := ⟨rfl, rfl, rfl, rfl, rfl, rfl, rfl, rfl, rfl, .inl ⟨rfl, rfl⟩⟩

theorem finding_keeps (valid : Bool) : FindingKeeps s (s.finding valid) := by
  cases h : s.trunk.transmission with
  | none => rw [finding_of_none h]; exact .refl s
  | some tx =>
    cases hv : valid && tx.clean with
    | false =>
      refine FindingKeeps.of_station s ?_ (finding_collided_keeps s h hv).station
      have counted : StationKeeps (s.setTrunk { s.trunk with transmission := none })
        (s.setTrunk { s.trunk with transmission := none }).countCollision := countCollision_station _
      have cleared : FindingKeeps s (s.setTrunk { s.trunk with transmission := none }) :=
        ⟨rfl, rfl, rfl, rfl, rfl, rfl, rfl, rfl, rfl, .inl ⟨rfl, rfl⟩⟩
      have same := FindingKeeps.of_station s cleared counted
      unfold State.collidedBy
      dsimp only
      split
      · unfold State.claimCollided
        dsimp only
        split
        · next collided =>
          refine ⟨same.lastWinner, same.lastUrgent, same.lastRoutine, same.joinCount, same.idleTime,
            same.leaveDeferred, same.line, same.received, same.receivedCount, .inr ⟨by rw [h]; rfl, ?_, rfl⟩⟩
          have active := collided.2
          rwa [setClaim_claim, counted.claim] at active
        · exact ⟨same.lastWinner, same.lastUrgent, same.lastRoutine, same.joinCount, same.idleTime,
            same.leaveDeferred, same.line, same.received, same.receivedCount, same.state⟩
      · exact same
    | true =>
      obtain ⟨rfl, clean⟩ := Bool.and_eq_true_iff.mp hv
      have cleaned : FindingKeeps s (s.cleanBy tx.item) := by
        unfold State.cleanBy
        cases tx.item <;> exact ⟨rfl, rfl, rfl, rfl, rfl, rfl, rfl, rfl, rfl, .inl ⟨rfl, rfl⟩⟩
      rw [finding_clean s h clean]
      split
      · next q g item =>
        obtain ⟨w, k⟩ := frameSentClean_keeps (s.cleanBy tx.item) q g
        refine FindingKeeps.of_station s cleaned (StationKeeps.trans ?_ k.station)
        exact ⟨rfl, rfl, rfl, rfl, rfl, rfl, rfl⟩
      all_goals exact cleaned

theorem finding_transmission (valid : Bool) : (s.finding valid).trunk.transmission = none := by
  cases h : s.trunk.transmission with
  | none => rw [finding_of_none h]; exact h
  | some tx =>
    cases hv : valid && tx.clean with
    | false =>
      rw [(finding_collided_keeps s h hv).trunk]
      have counted := (countCollision_station (s.setTrunk { s.trunk with transmission := none })).transmission
      unfold State.collidedBy
      dsimp only
      split
      · unfold State.claimCollided
        dsimp only
        split <;> exact counted
      · exact counted
    | true =>
      obtain ⟨rfl, clean⟩ := Bool.and_eq_true_iff.mp hv
      have cleaned : (s.cleanBy tx.item).trunk.transmission = none := by
        unfold State.cleanBy
        cases tx.item <;> rfl
      rw [finding_clean s h clean]
      split
      · next q g item =>
        obtain ⟨w, k⟩ := frameSentClean_keeps (s.cleanBy tx.item) q g
        rw [k.trunk]
        exact cleaned
      all_goals exact cleaned

end

end Sys2Proof.Machine
end

section
/-!
PROOFS. Activities that begin and end where nothing of this station is under way, the timers, and joining the trunk
(R13, R16, R20, R26, R30 to R35, R40, R43, R125, R166).
-/

namespace Sys2Proof.Machine

section
variable {s : State}

/-! ### Counters of a configured part -/

theorem countInvalid_eq (h : s.settings.isSome = true) : s.countInvalid =
    s.setCounters { s.counters with invalid := min 65535 (s.counters.invalid + 1) } := if_pos h

theorem countCollision_eq (h : s.settings.isSome = true) : s.countCollision =
    s.setCounters { s.counters with collisions := min 65535 (s.counters.collisions + 1) } := if_pos h

theorem countNoReply_eq (h : s.settings.isSome = true) : s.countNoReply =
    s.setCounters { s.counters with noReply := min 65535 (s.counters.noReply + 1) } := if_pos h

theorem countDrop_eq (h : s.settings.isSome = true) : s.countDrop =
    s.setCounters { s.counters with drops := min 65535 (s.counters.drops + 1) } := if_pos h

theorem closeWatch_of_none (h : s.trunk.watch = none) (r : Option (ReplyCode × ReplyFields)) :
    s.closeWatch r = s := by
  unfold State.closeWatch; rw [h]

/-- R20, R30: the claim unit at the end of invalid activity, the line being IDLE. -/
theorem claimInvalid_eq (h : s.trunk.line = .idle) : s.claimInvalid = s.setClaim { s.claim with
    lastWinner := 31,
    joinCount := if s.claim.state = .listening then some 0 else s.claim.joinCount } := by
  unfold State.claimInvalid State.startedJoinCount
  by_cases listening : s.claim.state = .listening
  · simp only [State.setLastWinner, setClaim_claim, setClaim_trunk, listening, h, if_true]
    rfl
  · simp only [State.setLastWinner, setClaim_claim, listening, if_false]

/-! ### Beginning and mismatch -/

/-- Settles O24. -/
theorem activityBeginsAndMismatchStopsTheDrive : Obligations.ActivityBeginsAndMismatchStopsTheDrive := by
  unfold Obligations.ActivityBeginsAndMismatchStopsTheDrive
  refine ⟨fun s idle => ?_, fun s tx line own driving => ⟨fun stays => ?_, fun leaves => ?_⟩⟩
  · change Host.Outcome.next s.activityBegins = _
    rw [State.activityBegins, if_pos idle]
    rfl
  · simp only [exec, execTransmitMismatch, line, own, driving, if_true, State.mismatchFound, State.finishLeave,
      setTrunk_claim, stays, Bool.false_eq_true, if_false]
    rfl
  · simp only [exec, execTransmitMismatch, line, own, driving, if_true, State.mismatchFound, State.finishLeave,
      setTrunk_claim, leaves]
    rfl

/-! ### Invalid activity -/

/-- What a valid frame's end leaves of the trunk interface in a configured state. -/
theorem frameReported_trunk (f : Frame) (active own : Bool) : (s.frameReported f active own).trunk.line = s.trunk.line ∧
    (s.frameReported f active own).trunk.received = s.trunk.received ∧
    (s.frameReported f active own).trunk.receivedCount = s.trunk.receivedCount := by
  have claimed : (s.claimValid f).trunk = s.trunk := by
    unfold State.claimValid
    split
    · dsimp only; split <;> rfl
    · split <;> rfl
  have before := beforeFinding_station s f active own
  have found := finding_keeps (s.beforeFinding f active own) true
  rw [frameReported_eq, found.line, before.line, found.received, before.received, found.receivedCount,
    before.receivedCount, claimed]
  exact ⟨rfl, rfl, rfl⟩

theorem afterActivity_trunk (s : State) (octets : List Octet) : (s.afterActivity octets).trunk.line = .idle ∧
    (s.afterActivity octets).trunk.received = octets.take 521 ∧
    (s.afterActivity octets).trunk.receivedCount = octets.length := by
  unfold State.afterActivity State.lineEnds State.finishLeave
  dsimp only
  split
  · split <;> exact ⟨rfl, rfl, rfl⟩
  · exact ⟨rfl, rfl, rfl⟩

/-- R13: the end of invalid activity where nothing of this station is under way. -/
theorem exec_invalidActivityEnd_uninvolved (line : List Character) (un : s.uninvolved) (stuck : s.trunk.line ≠ .stuck)
    (hs : s.settings.isSome = true) : exec (.invalidActivityEnd line) s = .next { s with
      trunk := { s.trunk with
        line := .idle, unseenStart := false, received := (assemble line).octets.take 521,
        receivedCount := (assemble line).octets.length,
        reply := if s.trunk.line = .idle then none else s.trunk.reply },
      claim := { s.claim with
        lastWinner := 31, idleTime := 0,
        joinCount := if s.claim.state = .listening then some 0
          else if s.trunk.line = .idle then none else s.claim.joinCount },
      counters := { s.counters with invalid := min 65535 (s.counters.invalid + 1) } } := by
  obtain ⟨transmission, watch, leave⟩ := un
  have receiver := afterActivity_receiver s (assemble line).octets
  have idle := (afterActivity_trunk s (assemble line).octets).1
  rw [exec_invalidActivityEnd_configured stuck hs, claimInvalid_eq idle,
    countInvalid_eq (by rw [setClaim_settings, receiver.settings]; exact hs), afterActivity_eq s _ leave,
    closeWatch_of_none, finding_of_none]
  · rfl
  · exact transmission
  · exact watch

/-- R18: in UNCONFIGURED the end of an activity is no more than the line's end. -/
theorem exec_ends_unconfigured (line : List Character) (stuck : s.trunk.line ≠ .stuck) (hs : s.settings = none) :
    exec (.invalidActivityEnd line) s = .next (s.afterActivity (assemble line).octets) ∧
      exec (.validFrameEnd line) s = .next (s.afterActivity (assemble line).octets) := by
  have unconfigured : ¬ (s.afterActivity (assemble line).octets).configured = true := by
    rw [(afterActivity_receiver s _).configured, State.configured, hs]
    exact nofun
  have invalid : exec (.invalidActivityEnd line) s = .next (s.afterActivity (assemble line).octets) := by
    rw [exec_invalidActivityEnd stuck]
    exact congrArg Host.Outcome.next (if_neg unconfigured)
  refine ⟨invalid, ?_⟩
  by_cases seen : judge line = none ∨ s.trunk.unseenStart = true
  · rw [exec_validFrameEnd_invalid seen, invalid]
  · obtain ⟨judged, started⟩ := not_or.mp seen
    obtain ⟨f, hf⟩ := Option.ne_none_iff_exists'.mp judged
    rw [exec_validFrameEnd_judged hf ⟨stuck, by simpa using started⟩]
    exact congrArg Host.Outcome.next (if_neg unconfigured)

theorem lineEnds_stuck (h : s.trunk.line = .stuck) : s.lineEnds = { s with
    trunk := { s.trunk with line := .idle, unseenStart := false }, claim := { s.claim with idleTime := 0 } } := by
  unfold State.lineEnds
  dsimp only
  rw [if_neg (by rw [h]; exact nofun)]
  rfl

theorem exec_returnToIdle (h : s.trunk.line = .stuck) : exec .returnToIdle s = .next s.lineReturns := by
  simp only [exec, execReturnToIdle, h]

/-- Settles O25. -/
theorem invalidActivitySetsTheReferenceTo31 : Obligations.InvalidActivitySetsTheReferenceTo31 := by
  unfold Obligations.InvalidActivitySetsTheReferenceTo31
  refine ⟨fun line s un stuck hs => ⟨exec_invalidActivityEnd_uninvolved line un stuck hs,
    exec_validFrameEnd_invalid, ?_⟩, fun line s stuck hs leave => ⟨?_, ?_⟩, fun s stuck hs => ?_⟩
  · by_cases seen : judge line = none ∨ s.trunk.unseenStart = true
    · rw [exec_validFrameEnd_invalid seen, exec_invalidActivityEnd_uninvolved line un stuck hs]
      exact ⟨_, rfl, rfl, rfl, rfl⟩
    · obtain ⟨judged, started⟩ := not_or.mp seen
      obtain ⟨f, hf⟩ := Option.ne_none_iff_exists'.mp judged
      rw [exec_validFrameEnd_configured hf ⟨stuck, by simpa using started⟩ hs]
      obtain ⟨line', received, count⟩ := afterActivity_trunk s (assemble line).octets
      obtain ⟨lineKept, receivedKept, countKept⟩ := frameReported_trunk
        (s := s.afterActivity (assemble line).octets) f (decide (s.claim.state = .active)) s.ownFrame
      exact ⟨_, rfl, lineKept.trans line', receivedKept.trans received, countKept.trans count⟩
  · rw [(exec_ends_unconfigured line stuck hs).1, afterActivity_eq s _ leave]
  · rw [(exec_ends_unconfigured line stuck hs).1, (exec_ends_unconfigured line stuck hs).2]
  · rw [exec_returnToIdle stuck, State.lineReturns, lineEnds_stuck stuck]
    exact congrArg Host.Outcome.next (if_neg (by rw [State.configured, hs]; exact nofun))

/-! ### Timers -/

/-- Settles O32. -/
theorem timersExpire : Obligations.TimersExpire := by
  unfold Obligations.TimersExpire
  refine ⟨fun p n s state silence => ?_, fun n s timer => ?_, fun q c p i s held pair => ?_⟩
  · have expired : s.silenceExpired p =
        (s.setPeer p { s.peer p with state := .silent, silence := none }).latchPeerChange :=
      if_pos ⟨state, by rw [silence]; rfl⟩
    refine ⟨_, congrArg Host.Outcome.next expired, rfl, ?_, fun r hr => ?_, rfl, rfl⟩
    · exact (setPeer_peer ..).trans (if_pos rfl)
    · exact (setPeer_peer ..).trans (if_neg (Ne.symm hr))
  · have running : s.peers.presenceTimer.isSome = true := by rw [timer]; rfl
    exact congrArg Host.Outcome.next (if_pos running)
  · have expired : s.holdExpired q = (s.setQueue q (.running { c with hold := none })).setHint p i none := by
      unfold State.holdExpired
      rw [held]
      dsimp only
      rw [pair]
    refine ⟨_, congrArg Host.Outcome.next expired, rfl, ?_, fun r hr => ?_, ?_, fun r j hrj => ?_, fun r => ?_,
      rfl, rfl⟩
    · exact (setQueue_queue ..).trans (if_pos rfl)
    · exact (setQueue_queue ..).trans (if_neg (Ne.symm hr))
    · rw [setHint_hint, if_pos ⟨rfl, rfl⟩]
    · rw [setHint_hint, if_neg]
      · rfl
      · rintro ⟨rfl, rfl⟩; exact hrj rfl
    · rw [State.setHint, setPeer_peer]
      split
      · next e => subst e; rfl
      · rfl

end

end Sys2Proof.Machine
end

section
/-!
PROOFS. Hearing a source, entry by entry (R38, R39, R46 to R48, R50, R99), and what joins, leaves and ends the
station's part in the trunk (R26, R31 to R35, R163 to R166).
-/

namespace Sys2Proof.Machine

section
variable {s : State} {f : Frame}

/-! ### What a hearing leaves -/

theorem freshStart_iff (b : FrameBody) : b.freshStart = true ↔ b = .presence true := by
  cases b with
  | presence fresh => cases fresh <;> simp [FrameBody.freshStart]
  | _ => simp [FrameBody.freshStart]

/-- R46, R47: a hearing marks a restart exactly where the frame reveals one. -/
theorem reveals_eq (h : f.src ≠ s.own) :
    s.reveals f = (s.peer f.src).restartedBy f.epoch f.body.freshStart := by
  rw [Bool.eq_iff_iff, restartedBy_iff, freshStart_iff]
  unfold State.reveals
  rw [decide_eq_true h, Bool.true_and, Bool.or_eq_true, decide_eq_true_eq]
  refine or_congr Iff.rfl ?_
  cases (s.peer f.src).epoch <;> simp

/-- The state after the source of a frame is heard. -/
def State.hearSource (s : State) (f : Frame) : State := s.hear f.src f.epoch f.body.freshStart

theorem heard_hints (e : PeerEntry) (epoch : Epoch) (fresh : Bool) (i : InboxIx) :
    (e.heard epoch fresh).hints[i] = if e.restartedBy epoch fresh then none else e.hints[i] := by
  unfold PeerEntry.heard; dsimp only; split
  · simp [PeerEntry.restart]
  · rfl

theorem heard_send (e : PeerEntry) (epoch : Epoch) (fresh : Bool) (i : InboxIx) :
    (e.heard epoch fresh).send[i] =
      if e.restartedBy epoch fresh then { e.send[i] with blind := 0 } else e.send[i] := by
  unfold PeerEntry.heard; dsimp only; split
  · simp [PeerEntry.restart]
  · rfl

/-- R99: a context that a hearing reaches. -/
theorem peerRestarted_context (c : Context) (hr : s.reveals f = true) :
    c.peerRestarted f.src (s.peer f.src) = s.stepHeard f c := by
  unfold Context.peerRestarted State.stepHeard
  simp only [hr, true_and, Option.isNone_iff_eq_none, and_comm (a := c.outcome = none), Context.isMessage,
    beq_iff_eq]
  rfl

section
variable (h : f.src ≠ s.own)
include h

theorem hearSource_receivePair (p : Station) (i : InboxIx) :
    (s.hearSource f).receivePair p i = s.recordHeard f p i := by
  rw [State.hearSource, State.receivePair, hear_peer, State.recordHeard, reveals_eq h]
  by_cases hp : f.src = p
  · subst hp
    rw [if_pos rfl, heard_receive]
    simp only [and_true]
    rfl
  · rw [if_neg hp, if_neg fun e => hp e.2.symm]
    rfl

theorem hearSource_hint (p : Station) (i : InboxIx) : (s.hearSource f).hint p i = s.hintHeard f p i := by
  rw [State.hearSource, State.hint, hear_peer, State.hintHeard, reveals_eq h]
  by_cases hp : f.src = p
  · subst hp
    rw [if_pos rfl, heard_hints]
    simp only [and_true]
    rfl
  · rw [if_neg hp, if_neg fun e => hp e.2.symm]
    rfl

theorem hearSource_sendPair (p : Station) (i : InboxIx) : (s.hearSource f).sendPair p i = s.pairHeard f p i := by
  rw [State.hearSource, State.sendPair, hear_peer, State.pairHeard, reveals_eq h]
  by_cases hp : f.src = p
  · subst hp
    rw [if_pos rfl, heard_send]
    simp only [and_true]
    rfl
  · rw [if_neg hp, if_neg fun e => hp e.2.symm]
    rfl

theorem hearSource_queue (q : QueueIx) : (s.hearSource f).queue q = s.queueHeard f (s.queue q) := by
  rw [State.hearSource, hear_queue, ← reveals_eq h]
  cases hr : s.reveals f with
  | true =>
    rw [if_pos rfl]
    cases s.queue q <;> simp only [QueueState.peerRestarted, State.queueHeard, peerRestarted_context _ hr]
  | false =>
    have same (c : Context) : s.stepHeard f c = c := if_neg (by rw [hr]; exact fun e => nomatch e.1)
    rw [if_neg Bool.false_ne_true]
    cases s.queue q <;> simp only [State.queueHeard, same]

end

end

/-! ### The trunk interface and the claim unit alone -/

/-- Only the trunk interface and the claim unit have changed, and no exchange has. -/
structure TrunkOnly (s t : State) : Prop where
  rest : t = { s with trunk := t.trunk, claim := t.claim }
  watch : t.trunk.watch = s.trunk.watch
  transmission : t.trunk.transmission = s.trunk.transmission

namespace TrunkOnly

variable {s t u : State}

theorem refl (s : State) : TrunkOnly s s := ⟨rfl, rfl, rfl⟩

theorem trans (h : TrunkOnly s t) (k : TrunkOnly t u) : TrunkOnly s u where
  rest := by rw [k.rest, h.rest]
  watch := k.watch.trans h.watch
  transmission := k.transmission.trans h.transmission

section
variable (h : TrunkOnly s t)
include h

theorem own : t.own = s.own := by rw [h.rest]; rfl
theorem peers : t.peers = s.peers := by rw [h.rest]
theorem store : t.store = s.store := by rw [h.rest]
theorem queues : t.queues = s.queues := by rw [h.rest]
theorem settings : t.settings = s.settings := by rw [h.rest]
theorem log : t.log = s.log := by rw [h.rest]
theorem inboxes : t.inboxes = s.inboxes := by rw [h.rest]
theorem words : t.words = s.words := by rw [h.rest]
theorem memory : t.memory = s.memory := by rw [h.rest]
theorem counters : t.counters = s.counters := by rw [h.rest]
theorem attention : t.attention = s.attention := by rw [h.rest]
theorem straps : t.straps = s.straps := by rw [h.rest]
theorem peer (p : Station) : t.peer p = s.peer p := by rw [h.rest]; rfl
theorem sendPair (p : Station) (i : InboxIx) : t.sendPair p i = s.sendPair p i := by rw [h.rest]; rfl
theorem hint (p : Station) (i : InboxIx) : t.hint p i = s.hint p i := by rw [h.rest]; rfl
theorem queue (q : QueueIx) : t.queue q = s.queue q := by rw [h.rest]; rfl
theorem desc (d : DescIx) : t.desc d = s.desc d := by rw [h.rest]; rfl
theorem inbox (i : InboxIx) : t.inbox i = s.inbox i := by rw [h.rest]; rfl
theorem reveals (f : Frame) : t.reveals f = s.reveals f := by rw [h.rest]; rfl
theorem recordHeard (f : Frame) (p : Station) (i : InboxIx) : t.recordHeard f p i = s.recordHeard f p i := by
  rw [h.rest]; rfl
theorem hintHeard (f : Frame) (p : Station) (i : InboxIx) : t.hintHeard f p i = s.hintHeard f p i := by
  rw [h.rest]; rfl
theorem pairHeard (f : Frame) (p : Station) (i : InboxIx) : t.pairHeard f p i = s.pairHeard f p i := by
  rw [h.rest]; rfl
theorem stepHeard (f : Frame) (c : Context) : t.stepHeard f c = s.stepHeard f c := by rw [h.rest]; rfl
theorem queueHeard (f : Frame) (st : QueueState) : t.queueHeard f st = s.queueHeard f st := by rw [h.rest]; rfl

end

end TrunkOnly

section
variable (s : State)

theorem activityBegins_only : TrunkOnly s s.activityBegins := by
  rw [activityBegins_eq]
  exact ⟨rfl, rfl, rfl⟩

theorem finishLeave_only : TrunkOnly s s.finishLeave := by
  unfold State.finishLeave
  split
  · exact ⟨rfl, rfl, rfl⟩
  · exact .refl s

theorem lineEnds_only : TrunkOnly s s.lineEnds := by
  have ended : TrunkOnly s ((s.setTrunk { s.trunk with line := .idle, unseenStart := false }).setClaim
      { s.claim with idleTime := 0 }) := ⟨rfl, rfl, rfl⟩
  unfold State.lineEnds
  dsimp only
  split
  · exact ended.trans (finishLeave_only _)
  · exact ended

theorem keepOctets_only (octets : List Octet) : TrunkOnly s (s.keepOctets octets) := ⟨rfl, rfl, rfl⟩

theorem afterActivity_only (octets : List Octet) : TrunkOnly s (s.afterActivity octets) :=
  ((activityBegins_only s).trans (keepOctets_only ..)).trans (lineEnds_only _)

theorem claimValid_only (f : Frame) : TrunkOnly s (s.claimValid f) := by
  unfold State.claimValid
  split
  · dsimp only; split <;> exact ⟨rfl, rfl, rfl⟩
  · split <;> exact ⟨rfl, rfl, rfl⟩

theorem claimInvalid_only : TrunkOnly s s.claimInvalid := by
  unfold State.claimInvalid
  dsimp only
  split <;> exact ⟨rfl, rfl, rfl⟩

/-- The state at a valid frame's end when the line and the claim unit have been told, and no other block. -/
def State.atFrameEnd (s : State) (line : List Character) (f : Frame) : State :=
  (s.afterActivity (assemble line).octets).claimValid f

theorem atFrameEnd_only (line : List Character) (f : Frame) : TrunkOnly s (s.atFrameEnd line f) :=
  (afterActivity_only ..).trans (claimValid_only ..)

end

section
variable {s : State} {f : Frame} {line : List Character}

/-- R14: the end of another station's valid frame, block by block. -/
theorem exec_validFrameEnd_heard (hj : judge line = some f) (hsrc : f.src ≠ s.own) (hend : s.canEnd)
    (hs : s.settings.isSome = true) (hown : s.ownFrame = false) :
    exec (.validFrameEnd line) s = .next ((((((s.atFrameEnd line f).hearSource f).arrival f
      (decide (s.claim.state = .active))).creditHeard f false).judgeWatch f).finding true) := by
  have other : f.src ≠ (s.atFrameEnd line f).own := by
    rw [(atFrameEnd_only s line f).own]; exact hsrc
  rw [exec_validFrameEnd_configured hj hend hs, hown, frameReported_eq, State.beforeFinding,
    if_neg Bool.false_ne_true]
  change Host.Outcome.next ((((((s.atFrameEnd line f).observe f false).arrival f _).creditHeard f false).judgeWatch
    f).finding true) = _
  rw [observe_other other]
  rfl

theorem ownFrame_of_none (h : s.trunk.transmission = none) : s.ownFrame = false := by
  unfold State.ownFrame; rw [h]

theorem hear_blocks_hearSource (s : State) (f : Frame) :
    (s.hearSource f).inboxes = s.inboxes ∧ (s.hearSource f).counters = s.counters ∧
      (s.hearSource f).memory = s.memory ∧ (s.hearSource f).store = s.store ∧
      (s.hearSource f).log = s.log := hear_blocks ..

theorem hearSource_receiver (s : State) (f : Frame) : ReceiverKeeps (s.sourceHeard f) (s.hearSource f) :=
  hear_receiver ..

theorem hearSource_station (s : State) (f : Frame) : StationKeeps s (s.hearSource f) := hear_station ..

theorem hearSource_trunk (s : State) (f : Frame) : (s.hearSource f).trunk = s.trunk := hear_trunk ..

theorem creditHeard_keeps (s : State) (f : Frame) (own : Bool) : EngineKeeps s (s.creditHeard f own) := by
  unfold State.creditHeard
  split
  · split
    · exact .refl s
    · exact (setHint_keeps ..).trans (releaseHeld_keeps ..)
  · exact .refl s

theorem creditHeard_exchanges (s : State) (f : Frame) (own : Bool) :
    (s.creditHeard f own).trunk = s.trunk := (creditHeard_keeps s f own).trunk

/-- R14: the same where nothing of this station is under way. -/
theorem exec_validFrameEnd_uninvolved (hj : judge line = some f) (hsrc : f.src ≠ s.own) (hend : s.canEnd)
    (hs : s.settings.isSome = true) (un : s.uninvolved) :
    exec (.validFrameEnd line) s = .next ((((s.atFrameEnd line f).hearSource f).arrival f
      (decide (s.claim.state = .active))).creditHeard f false) := by
  obtain ⟨transmission, watch, -⟩ := un
  have only := atFrameEnd_only s line f
  have arrived := arrival_exchanges ((s.atFrameEnd line f).hearSource f) f (decide (s.claim.state = .active))
  rw [exec_validFrameEnd_heard hj hsrc hend hs (ownFrame_of_none transmission), judgeWatch_of_none, finding_of_none]
  · rw [creditHeard_exchanges, arrived.2, hearSource_trunk, only.transmission, transmission]
  · rw [creditHeard_exchanges, arrived.1, hearSource_trunk, only.watch, watch]

/-- R117, R137: a frame's end at a station that was not ACTIVE leaves no more than the count of a dropped BCAST. -/
structure DropsAtMost (s t : State) : Prop where
  trunk : t.trunk = s.trunk
  words : t.words = s.words
  memory : t.memory = s.memory
  peers : t.peers = s.peers
  inbox : ∀ i, t.inbox i = { s.inbox i with drops := (t.inbox i).drops }

theorem dropBcast_drops (s : State) (i : InboxIx) : DropsAtMost s (s.dropBcast i) := by
  refine ⟨countDrop_trunk _, countDrop_words _, countDrop_memory _, countDrop_peers _, fun j => ?_⟩
  have counted : (s.dropBcast i).inbox j = (s.setInbox i { s.inbox i with
      drops := satAdd counterLimit (s.inbox i).drops 1 }).inbox j := by
    rw [State.inbox, State.dropBcast, countDrop_inboxes]; rfl
  rw [counted, setInbox_inbox]
  split
  · next e => rw [e]
  · rfl

theorem arrival_inactive (s : State) (f : Frame) : DropsAtMost s (s.arrival f false) := by
  have same : DropsAtMost s s := ⟨rfl, rfl, rfl, rfl, fun _ => rfl⟩
  unfold State.arrival
  split
  · exact same
  · split
    case h_1 => exact dropBcast_drops s f.ch
    all_goals exact same

end

/-! ### Joining -/

/-- Settles O28. -/
theorem joinQuietAndQuietExpiryMoveTheStation : Obligations.JoinQuietAndQuietExpiryMoveTheStation := by
  unfold Obligations.JoinQuietAndQuietExpiryMoveTheStation
  refine ⟨fun s n listening join => ?_, fun line f s hj claimed hsrc hend un hs listening => ?_,
    fun s n quiet timer => ?_⟩
  · have counting : s.claim.state = .listening ∧ s.claim.joinCount.isSome = true := ⟨listening, by rw [join]; rfl⟩
    exact congrArg Host.Outcome.next (if_pos counting)
  · obtain ⟨transmission, watch, leave⟩ := un
    have only := atFrameEnd_only s line f
    have joined : s.atFrameEnd line f = ((s.afterActivity (assemble line).octets).setLastWinner f.src).enterActive := by
      have still : (s.afterActivity (assemble line).octets).claim.state = .listening := by
        rw [afterActivity_eq s _ leave]; exact listening
      unfold State.atFrameEnd State.claimValid
      rw [if_pos claimed]
      exact if_pos still
    have inactive : decide (s.claim.state = .active) = false := decide_eq_false (by rw [listening]; exact nofun)
    have arrived := arrival_inactive ((s.atFrameEnd line f).hearSource f) f
    have station := arrival_station ((s.atFrameEnd line f).hearSource f) f false
    have credited := creditHeard_keeps (((s.atFrameEnd line f).hearSource f).arrival f false) f false
    obtain ⟨inboxes, -, memory, -⟩ := hear_blocks_hearSource (s.atFrameEnd line f) f
    have heardInbox (i : InboxIx) : ((s.atFrameEnd line f).hearSource f).inbox i = s.inbox i := by
      rw [State.inbox, inboxes, only.inboxes]; rfl
    rw [exec_validFrameEnd_uninvolved hj hsrc hend hs ⟨transmission, watch, leave⟩, inactive]
    refine ⟨_, rfl, ?_, ?_, fun i => ?_, ?_, ?_, fun p i => ?_⟩
    · rw [credited.claim, station.claim, (hearSource_station _ f).claim, joined, afterActivity_eq s _ leave]
      rfl
    · rw [credited.trunk, arrived.trunk, hearSource_trunk, joined, afterActivity_eq s _ leave]
      rfl
    · have kept := arrived.inbox i
      rw [heardInbox] at kept
      simpa only [State.inbox, credited.inboxes] using kept
    · rw [credited.words, arrived.words, (hearSource_receiver _ f).words]
      exact only.words
    · rw [credited.memory, arrived.memory, memory, only.memory]
    · have other : f.src ≠ (s.atFrameEnd line f).own := by rw [only.own]; exact hsrc
      rw [← only.recordHeard, ← hearSource_receivePair other]
      simp only [State.receivePair, (credited.peer p).2.2.2]
      simp only [State.peer, arrived.peers]
  · have running : s.claim.state = .quiet ∧ s.claim.quietTimer.isSome = true := ⟨quiet, by rw [timer]; rfl⟩
    exact congrArg Host.Outcome.next (if_pos running)

end Sys2Proof.Machine
end

section
/-!
PROOFS. What the commands leave alone: packet memory and the peers' states (R41, R56), the station trunk state (R18)
and L (R20), command by command; and which commands change the settings (R176).
-/

namespace Sys2Proof.Machine

/-! ### What most commands leave alone -/

/-- No peer's state has changed, nor packet memory, the straps, RST or the settings. -/
structure Unheard (s t : State) : Prop where
  memory : t.memory = s.memory
  peer : ∀ p, (t.peer p).state = (s.peer p).state
  board : t.straps = s.straps ∧ t.rst = s.rst ∧ t.settings = s.settings

/-- Moreover the station keeps its trunk state and L. -/
structure Unmoved (s t : State) : Prop extends Unheard s t where
  state : t.claim.state = s.claim.state
  lastWinner : t.claim.lastWinner = s.claim.lastWinner

section
variable {s t u : State}

theorem Unheard.trans (h : Unheard s t) (k : Unheard t u) : Unheard s u :=
  ⟨k.memory.trans h.memory, fun p => (k.peer p).trans (h.peer p),
    ⟨k.board.1.trans h.board.1, k.board.2.1.trans h.board.2.1, k.board.2.2.trans h.board.2.2⟩⟩

theorem Unmoved.refl (s : State) : Unmoved s s := ⟨⟨rfl, fun _ => rfl, rfl, rfl, rfl⟩, rfl, rfl⟩

theorem Unmoved.trans (h : Unmoved s t) (k : Unmoved t u) : Unmoved s u :=
  ⟨h.toUnheard.trans k.toUnheard, k.state.trans h.state, k.lastWinner.trans h.lastWinner⟩

theorem Unheard.of_eq (memory : t.memory = s.memory) (peers : t.peers.entries = s.peers.entries)
    (board : t.straps = s.straps ∧ t.rst = s.rst ∧ t.settings = s.settings) : Unheard s t :=
  ⟨memory, fun p => by simp only [State.peer, peers], board⟩

theorem Unmoved.of_eq (memory : t.memory = s.memory) (peers : t.peers.entries = s.peers.entries)
    (claim : t.claim = s.claim)
    (board : t.straps = s.straps ∧ t.rst = s.rst ∧ t.settings = s.settings) : Unmoved s t :=
  ⟨.of_eq memory peers board, by rw [claim], by rw [claim]⟩

theorem EngineKeeps.unmoved (k : EngineKeeps s t) : Unmoved s t :=
  ⟨⟨k.memory, fun p => (k.peer p).1, k.straps, k.rst, k.settings⟩, by rw [k.claim], by rw [k.claim]⟩

theorem TrunkOnly.unheard (k : TrunkOnly s t) : Unheard s t :=
  .of_eq k.memory (by rw [k.peers]) ⟨k.straps, by rw [k.rest], k.settings⟩

end

section
variable (s : State)

theorem countInvalid_unmoved : Unmoved s s.countInvalid := by
  refine .of_eq ?_ ?_ ?_ ?_ <;> simp

theorem countNoReply_unmoved : Unmoved s s.countNoReply := by
  refine .of_eq ?_ ?_ ?_ ?_ <;> simp

theorem countCollision_unmoved : Unmoved s s.countCollision := by
  refine .of_eq ?_ ?_ ?_ ?_ <;> simp

theorem closeWatch_unmoved (r : Option (ReplyCode × ReplyFields)) : Unmoved s (s.closeWatch r) := by
  refine Unmoved.trans ?_ (closeWatch_keeps s r).unmoved
  split
  · have closed : Unmoved s (s.setTrunk { s.trunk with watch := none }) := .of_eq rfl rfl rfl ⟨rfl, rfl, rfl⟩
    exact closed.trans (countNoReply_unmoved _)
  · exact .of_eq rfl rfl rfl ⟨rfl, rfl, rfl⟩

theorem judgeWatch_unmoved (f : Frame) : Unmoved s (s.judgeWatch f) := by
  obtain ⟨r, hr⟩ := judgeWatch_closes s f
  rw [hr]
  exact closeWatch_unmoved s r

theorem collidedBy_unheard (item : Item) : Unheard s (s.collidedBy item) := by
  have cleared : Unmoved s (s.setTrunk { s.trunk with transmission := none }) := .of_eq rfl rfl rfl ⟨rfl, rfl, rfl⟩
  have counted := (cleared.trans (countCollision_unmoved _)).toUnheard
  unfold State.collidedBy
  dsimp only
  split
  · unfold State.claimCollided
    dsimp only
    split <;> exact ⟨counted.memory, counted.peer, counted.board⟩
  · exact counted

theorem cleanBy_unheard (item : Item) : Unheard s (s.cleanBy item) := by
  unfold State.cleanBy
  cases item <;> exact .of_eq rfl rfl ⟨rfl, rfl, rfl⟩

theorem finding_unheard (valid : Bool) : Unheard s (s.finding valid) := by
  cases h : s.trunk.transmission with
  | none => rw [finding_of_none h]; exact (Unmoved.refl s).toUnheard
  | some tx =>
    cases hv : valid && tx.clean with
    | false => exact (collidedBy_unheard s tx.item).trans (finding_collided_keeps s h hv).unmoved.toUnheard
    | true =>
      obtain ⟨rfl, clean⟩ := Bool.and_eq_true_iff.mp hv
      rw [finding_clean s h clean]
      split
      · next q g item =>
        obtain ⟨w, k⟩ := frameSentClean_keeps (s.cleanBy tx.item) q g
        have opened : Unheard (s.cleanBy tx.item) ((s.cleanBy tx.item).setTrunk
            { (s.cleanBy tx.item).trunk with watch := w }) := .of_eq rfl rfl ⟨rfl, rfl, rfl⟩
        exact (cleanBy_unheard s tx.item).trans (opened.trans k.unmoved.toUnheard)
      all_goals exact cleanBy_unheard s tx.item

/-! ### Granting -/

theorem activityBegins_unmoved : Unmoved s s.activityBegins :=
  ⟨(activityBegins_only s).unheard, (activityBegins_claim s).2.1, (activityBegins_claim s).2.2⟩

theorem transmit_unmoved (item : Item) (lead : List Octet) (a n : Nat) : Unmoved s (s.transmit item lead a n) := by
  unfold State.transmit
  split
  · exact ⟨.of_eq rfl rfl ⟨rfl, rfl, rfl⟩, rfl, rfl⟩
  · exact .refl s

theorem movePointer_unmoved (q : QueueIx) : Unmoved s (s.movePointer q) := by
  unfold State.movePointer
  split <;> exact ⟨.of_eq rfl rfl ⟨rfl, rfl, rfl⟩, rfl, rfl⟩

theorem grantQueue_unmoved (q : QueueIx) : Unmoved s (s.grantQueue q) := by
  unfold State.grantQueue
  split
  · next c _ =>
    have moved := (movePointer_unmoved s q).trans (setQueue_keeps (s.movePointer q) q
      (.running (s.granted c (s.stepFrame c)))).unmoved
    dsimp only
    split <;> exact moved.trans (transmit_unmoved ..)
  · exact .refl s

theorem slotBegins_unmoved : Unmoved s s.slotBegins := by
  unfold State.slotBegins
  split
  · split
    · next g _ =>
      cases g with
      | queue q => exact grantQueue_unmoved s q
      | freshStart => exact transmit_unmoved ..
      | credit => exact transmit_unmoved ..
      | presence => exact transmit_unmoved ..
    · exact .refl s
  · exact .refl s

theorem slotOvertaken_unmoved : Unmoved s s.slotOvertaken := by
  unfold State.slotOvertaken
  split
  · split
    · next g _ =>
      refine Unmoved.trans ?_ (activityBegins_unmoved _)
      cases g with
      | queue q => exact (movePointer_unmoved s q).trans (frameNotSent_keeps _ q).unmoved
      | freshStart => exact .refl s
      | credit => exact .refl s
      | presence => exact .refl s
    · exact activityBegins_unmoved s
  · exact activityBegins_unmoved s

theorem replyBegins_unmoved : Unmoved s s.replyBegins := by
  have discarded : Unmoved s s.discardReply := .of_eq rfl rfl rfl ⟨rfl, rfl, rfl⟩
  unfold State.replyBegins
  split
  · exact .refl s
  · dsimp only
    split
    · exact discarded.trans (transmit_unmoved ..)
    · exact discarded

end

/-! ### Events -/

/-- The events that end no activity, find no fault and run down no timer of the station or of a peer. -/
def quietEvent : Instr → Bool
  | .activityStart | .transmissionComplete | .slotBegin _ | .replyStart | .replyWatchTimeout
  | .presenceTimerExpiry | .holdTimerExpiry _ | .selFall | .selRise => true
  | _ => false

theorem exec_quiet {c : Instr} (hc : quietEvent c = true) {s t : State} (h : exec c s = .next t) : Unmoved s t := by
  cases c <;> simp only [quietEvent, Bool.false_eq_true] at hc
  case activityStart => cases h; exact activityBegins_unmoved s
  case transmissionComplete =>
    simp only [exec, execTransmissionComplete] at h
    split at h
    · cases h
      split
      · exact .of_eq rfl rfl rfl ⟨rfl, rfl, rfl⟩
      · exact .refl s
    · cases h; exact .refl s
  case slotBegin overtaken =>
    cases h
    split
    · exact slotOvertaken_unmoved s
    · exact slotBegins_unmoved s
  case replyStart => cases h; exact replyBegins_unmoved s
  case replyWatchTimeout =>
    cases h
    split
    · exact closeWatch_unmoved s none
    · exact .refl s
  case presenceTimerExpiry =>
    cases h
    unfold State.presenceExpired
    split
    · exact .of_eq rfl rfl rfl ⟨rfl, rfl, rfl⟩
    · exact .refl s
  case holdTimerExpiry q => cases h; exact (holdExpired_keeps s q).unmoved
  case selFall =>
    obtain ⟨p, hp⟩ := execSelFall_port s
    cases hp.symm.trans h
    exact .of_eq rfl rfl rfl ⟨rfl, rfl, rfl⟩
  case selRise => cases h; exact .of_eq rfl rfl rfl ⟨rfl, rfl, rfl⟩

/-! ### Host commands -/

/-- The host commands that write packet memory or move the station. -/
def movesStation : Instr → Bool
  | .configure _ | .restart .. | .leave | .join | .memWrite .. => true
  | _ => false

/-- What every other command that the port takes does to the station. -/
theorem perform_unmoved (s : State) {c : Instr} (stays : movesStation c = false) :
    Unmoved s (s.perform c).state := by
  cases c
  case configure | restart | leave | join | memWrite => cases stays
  case queueStart =>
    simp only [State.perform, State.queueStartAnswer]
    split
    · split
      · exact (arrive_keeps ..).unmoved
      · exact .refl s
    · exact .refl s
  case queueResume =>
    simp only [State.perform, State.queueResumeAnswer]
    split
    · exact .refl s
    · split
      · exact (arrive_keeps ..).unmoved
      · exact (followLink_keeps ..).unmoved
      all_goals exact .refl s
  case queueStop =>
    simp only [State.perform, State.queueStopAnswer]
    split
    · exact (stopQueue_keeps ..).unmoved
    · exact .refl s
  case logTake =>
    simp only [State.perform, State.logTakeAnswer]
    split
    · exact .refl s
    · exact (serveRest_keeps ..).unmoved
  case memRead =>
    simp only [State.perform, State.memReadAnswer]
    split <;> exact .refl s
  case descWrite =>
    simp only [State.perform, State.descWriteAnswer]
    split
    · split <;> exact .of_eq rfl rfl rfl ⟨rfl, rfl, rfl⟩
    · exact .refl s
  case descRead =>
    simp only [State.perform, State.descReadAnswer]
    split <;> exact .refl s
  case descDisarm =>
    simp only [State.perform, State.descDisarmAnswer]
    split
    · exact .refl s
    · split
      · exact .refl s
      · split <;> exact .of_eq rfl rfl rfl ⟨rfl, rfl, rfl⟩
  case listWrite =>
    simp only [State.perform, State.listWriteAnswer]
    split <;> exact .of_eq rfl rfl rfl ⟨rfl, rfl, rfl⟩
  case queueRead =>
    simp only [State.perform, State.queueReadAnswer]
    split <;> exact .refl s
  case inboxPost =>
    simp only [State.perform, State.inboxPostAnswer]
    split
    · split
      · split
        · exact .refl s
        · split <;> exact .of_eq rfl rfl rfl ⟨rfl, rfl, rfl⟩
      · exact .refl s
    · exact .refl s
  case inboxTake =>
    simp only [State.perform, State.inboxTakeAnswer]
    split
    · exact .refl s
    · split <;> exact .of_eq rfl rfl rfl ⟨rfl, rfl, rfl⟩
  case inboxRead =>
    simp only [State.perform, State.inboxReadAnswer]
    split <;> exact .of_eq rfl rfl rfl ⟨rfl, rfl, rfl⟩
  case noticeTake =>
    simp only [State.perform, State.noticeTakeAnswer]
    split <;> exact .of_eq rfl rfl rfl ⟨rfl, rfl, rfl⟩
  case peerRead =>
    simp only [State.perform, State.peerReadAnswer]
    split <;> exact .refl s
  all_goals exact .of_eq rfl rfl rfl ⟨rfl, rfl, rfl⟩

end Sys2Proof.Machine
end

section
/-!
PROOFS. Which commands change the settings and packet memory (R56, R176), L (R20), the station trunk state (R18) and
the peers' states (R41).
-/

namespace Sys2Proof.Machine

/-! ### The command that acts -/

/-- An event and an edge of SEL are carried by no octet. -/
theorem carriedBy_of_not_host {c : Instr} (hc : isHost c = false) : carriedBy c = [] := by
  cases c <;> simp only [isHost, commandCode, Option.isSome, Bool.true_eq_false] at hc <;> rfl

theorem taken_of_not_host {c : Instr} (hc : isHost c = false) (s : State) : s.taken c = none := by
  unfold State.taken
  rw [carriedBy_of_not_host hc]
  cases s.port.state <;> rfl

theorem acting_of_not_host {c : Instr} (hc : isHost c = false) (s : State) : s.acting c = c := by
  unfold State.acting
  rw [taken_of_not_host hc]

theorem acting_of_taken {s : State} {c x : Instr} {rest : List Octet} (h : s.taken c = some (x, rest)) :
    s.acting c = x := by
  unfold State.acting
  rw [h]

theorem isHost_of_isEvent {c : Instr} (hc : isEvent c = true) : isHost c = false := by
  cases c <;> simp only [isEvent, Bool.false_eq_true] at hc <;> rfl

/-- What a command comes to: an event, a change of the port, a hard reset, or the effect of the command that acts. -/
theorem exec_comes_to {c : Instr} {s t : State} (h : exec c s = .next t)
    (reset : ∀ a r l v w, c ≠ .hardReset a r l v w) :
    (isEvent c = true ∧ s.acting c = c) ∨ (∃ p, t = s.setPort p) ∨
      (isHost (s.acting c) = true ∧ (anyTime (s.acting c) = true ∨ s.settings.isSome = true) ∧
        ∃ p, t = (s.perform (s.acting c)).state.setPort p) := by
  rcases instr_cases c with hc | hc | ⟨a, r, l, v, w, rfl⟩ | rfl | rfl
  · exact .inl ⟨hc, acting_of_not_host (isHost_of_isEvent hc) s⟩
  · rcases exec_host_cases hc s with ⟨-, e⟩ | ⟨-, -, e⟩ | ⟨-, e⟩ | ⟨x, rest, -, taken, host, e⟩ <;> cases h.symm.trans e
    · exact .inr (.inl ⟨s.port, rfl⟩)
    · exact .inr (.inl ⟨_, rfl⟩)
    · exact .inr (.inl ⟨_, rfl⟩)
    · rw [acting_of_taken taken]
      unfold State.answer
      split
      · next ready =>
        exact .inr (.inr ⟨host, Bool.or_eq_true_iff.mp ready, _, rfl⟩)
      · exact .inr (.inl ⟨_, rfl⟩)
  · exact absurd rfl (reset a r l v w)
  · obtain ⟨p, hp⟩ := execSelFall_port s
    cases hp.symm.trans h
    exact .inr (.inl ⟨p, rfl⟩)
  · cases h; exact .inr (.inl ⟨_, rfl⟩)

/-! ### Events but the end of a valid frame -/

section
variable {s : State}

theorem afterActivity_unheard (s : State) (octets : List Octet) : Unheard s (s.afterActivity octets) :=
  (afterActivity_only s octets).unheard

theorem enterStuck_unheard (s : State) : Unheard s s.enterStuck := by
  unfold State.enterStuck
  split <;> exact .of_eq rfl rfl ⟨rfl, rfl, rfl⟩

/-- R163: the line found stuck, in the two parts of which the second ends the exchanges. -/
theorem lineStuck_eq (s : State) (octets : List Octet) : s.lineStuck octets =
    if s.configured then ((s.keepOctets octets).enterStuck.closeWatch none).finding false
    else (s.keepOctets octets).enterStuck := by
  have same : (s.keepOctets octets).configured = s.configured := rfl
  have still : ((s.keepOctets octets).setLine .stuck).configured = s.configured := rfl
  unfold State.lineStuck State.enterStuck State.stuckExchanges
  simp only [same, still]
  split <;> rfl

theorem invalidActivityEnd_unheard {line : List Character} {t : State}
    (h : exec (.invalidActivityEnd line) s = .next t) : Unheard s t := by
  by_cases stuck : s.trunk.line = .stuck
  · cases (exec_invalidActivityEnd_stuck stuck line).symm.trans h
    exact (Unmoved.refl s).toUnheard
  · have ended := afterActivity_unheard s (assemble line).octets
    cases hs : s.settings with
    | none => cases (exec_ends_unconfigured line stuck hs).1.symm.trans h; exact ended
    | some set =>
      cases (exec_invalidActivityEnd_configured stuck (by rw [hs]; rfl) line).symm.trans h
      exact (((ended.trans (claimInvalid_only _).unheard).trans (countInvalid_unmoved _).toUnheard).trans
        (closeWatch_unmoved _ none).toUnheard).trans (finding_unheard _ false)

theorem lineFoundStuck_unheard {line : List Character} {t : State}
    (h : exec (.lineFoundStuck line) s = .next t) : Unheard s t := by
  by_cases stuck : s.trunk.line = .stuck
  · simp only [exec, execLineFoundStuck, stuck] at h
    cases h
    exact (Unmoved.refl s).toUnheard
  · have entered : Unheard s ((s.activityBegins).keepOctets (assemble line).octets).enterStuck :=
      ((activityBegins_only s).trans (keepOctets_only ..)).unheard.trans (enterStuck_unheard _)
    cases (exec_lineFoundStuck stuck line).symm.trans h
    rw [lineStuck_eq]
    split
    · exact (entered.trans (closeWatch_unmoved _ none).toUnheard).trans (finding_unheard _ false)
    · exact entered

/-- No event but the end of a valid frame and a silence timer's end changes packet memory or a peer's state. -/
theorem exec_unheard {c : Instr} (hc : isEvent c = true) (frame : ∀ l, c ≠ .validFrameEnd l)
    (silence : ∀ p, c ≠ .silenceTimerExpiry p) {t : State} (h : exec c s = .next t) : Unheard s t := by
  cases c <;> simp only [isEvent, Bool.false_eq_true] at hc
  case validFrameEnd l => exact absurd rfl (frame l)
  case silenceTimerExpiry p => exact absurd rfl (silence p)
  case invalidActivityEnd => exact invalidActivityEnd_unheard h
  case lineFoundStuck => exact lineFoundStuck_unheard h
  case transmitMismatch =>
    simp only [exec, execTransmitMismatch] at h
    split at h
    · next tx _ _ =>
      cases h
      split
      · have stopped : Unheard s (s.setTrunk { s.trunk with
            line := .activeRx, transmission := some { tx with phase := .mismatched } }) :=
          .of_eq rfl rfl ⟨rfl, rfl, rfl⟩
        exact stopped.trans (finishLeave_only _).unheard
      · exact (Unmoved.refl s).toUnheard
    · cases h; exact (Unmoved.refl s).toUnheard
  case returnToIdle =>
    have ended : Unheard s s.lineReturns := by
      unfold State.lineReturns
      dsimp only
      split
      · exact (((lineEnds_only s).trans (claimInvalid_only _)).unheard).trans (countInvalid_unmoved _).toUnheard
      · exact (lineEnds_only s).unheard
    simp only [exec, execReturnToIdle] at h
    split at h <;> cases h
    · exact ended
    all_goals exact (Unmoved.refl s).toUnheard
  case joinQuiet =>
    cases h
    split
    · exact .of_eq rfl rfl ⟨rfl, rfl, rfl⟩
    · exact (Unmoved.refl s).toUnheard
  case quietTimerExpiry =>
    cases h
    split
    · exact .of_eq rfl rfl ⟨rfl, rfl, rfl⟩
    · exact (Unmoved.refl s).toUnheard
  all_goals exact (exec_quiet rfl h).toUnheard

theorem silenceExpired_memory (s : State) (p : Station) : (s.silenceExpired p).memory = s.memory := by
  unfold State.silenceExpired
  dsimp only
  split <;> rfl

/-! ### The end of a valid frame -/

/-- The end of a valid frame as the station takes it: not at all, as invalid activity, or judged. -/
theorem exec_validFrameEnd_cases {line : List Character} {t : State} (h : exec (.validFrameEnd line) s = .next t) :
    exec (.invalidActivityEnd line) s = .next t ∨
      ∃ f, judge line = some f ∧ s.canEnd ∧ s.settings.isSome = true ∧
        t = (s.afterActivity (assemble line).octets).frameReported f (decide (s.claim.state = .active)) s.ownFrame := by
  by_cases stuck : s.trunk.line = .stuck
  · cases (exec_validFrameEnd_stuck stuck line).symm.trans h
    exact .inl (exec_invalidActivityEnd_stuck stuck line)
  · cases hs : s.settings with
    | none =>
      obtain ⟨invalid, valid⟩ := exec_ends_unconfigured line stuck hs
      exact .inl (invalid.trans (valid.symm.trans h))
    | some set =>
      cases hj : judge line with
      | none => exact .inl ((exec_validFrameEnd_invalid (.inl hj)).symm.trans h)
      | some f =>
        cases seen : s.trunk.unseenStart with
        | true => exact .inl ((exec_validFrameEnd_invalid (.inr seen)).symm.trans h)
        | false =>
          have settled : s.settings.isSome = true := by rw [hs]; rfl
          cases (exec_validFrameEnd_configured hj ⟨stuck, seen⟩ settled).symm.trans h
          exact .inr ⟨f, rfl, ⟨stuck, seen⟩, rfl, rfl⟩

theorem observe_blocks (s : State) (f : Frame) (own : Bool) : (s.observe f own).memory = s.memory ∧
    (s.observe f own).inboxes = s.inboxes := by
  unfold State.observe
  split
  · split <;> exact ⟨rfl, rfl⟩
  · split
    · exact ⟨rfl, rfl⟩
    · obtain ⟨inboxes, -, memory, -⟩ := hear_blocks s f.src f.epoch f.body.freshStart
      exact ⟨memory, inboxes⟩

/-- R41: a hearing makes its source PRESENT, PEER_CHANGE being latched where it was not. -/
theorem observe_peer (s : State) (f : Frame) (own : Bool) (p : Station) :
    ((s.observe f own).peer p).state = (s.peer p).state ∨
      ((s.observe f own).attention.peerChange = true ∧ (s.peer p).state ≠ .present ∧
        ((s.observe f own).peer p).state = .present ∧ p ≠ s.own) := by
  unfold State.observe
  split
  · split <;> exact .inl rfl
  · split
    · exact .inl rfl
    · next other =>
      rw [hear_peer]
      split
      · next e =>
        subst e
        by_cases present : (s.peer f.src).state = .present
        · exact .inl present.symm
        · refine .inr ⟨?_, present, rfl, other⟩
          unfold State.hear
          dsimp only
          rw [if_neg present]
          split <;> rfl
      · exact .inl rfl

theorem arrival_peer (s : State) (f : Frame) (active : Bool) (p : Station) :
    ((s.arrival f active).peer p).state = (s.peer p).state := by
  unfold State.arrival
  split
  · rfl
  · split
    case h_1 payload =>
      unfold State.bcastArrives; split
      · rfl
      · exact congrArg (fun t : PeerTable => (t.entries[p]).state) (countDrop_peers _)
    case h_2 seq payload =>
      split
      · unfold State.dataArrives
        split
        · rfl
        · rfl
        · change ((State.setPeer _ f.src _).peer p).state = _
          rw [setPeer_peer]
          split
          · next e => rw [← e]; rfl
          · rfl
      · rfl
    case h_3 => split <;> rfl
    case h_4 word value =>
      split
      · unfold State.noticeArrives; dsimp only; split <;> rfl
      · rfl
    all_goals rfl

/-- A frame's payload, where it is written: the frame is a DATA or a BCAST, and the payload fits the head buffer. -/
def State.storesIn (s : State) (f : Frame) (payload : List Octet) (b : Buffer) : Prop :=
  (f.body = .bcast payload ∨ ∃ seq, f.body = .data seq payload) ∧
    (∃ rest, (s.inbox f.ch).free = b :: rest) ∧ payload.length ≤ b.capacity

theorem bcastBuffer_some {p : Station} {i : InboxIx} {n : Nat} {b : Buffer} (h : s.bcastBuffer p i n = some b) :
    s.decideRoom i n = .accept b := by
  unfold State.bcastBuffer at h
  split at h
  · split at h
    · next decided => rw [decided, Option.some.inj h]
    · cases h
  · cases h

/-- R114, R117: packet memory is as it was, or the payload stands in the head buffer. -/
theorem arrival_memory (s : State) (f : Frame) (active : Bool) : (s.arrival f active).memory = s.memory ∨
    ∃ payload b, s.storesIn f payload b ∧
      (s.arrival f active).memory = s.memory.writeOctets b.address.val payload := by
  unfold State.arrival
  split
  · exact .inl rfl
  · split
    case h_1 payload body =>
      unfold State.bcastArrives
      split
      · next b accepted =>
        split at accepted
        · obtain ⟨-, free, fits⟩ := decideRoom_accept (bcastBuffer_some accepted)
          exact .inr ⟨payload, b, ⟨.inl body, free, fits⟩, rfl⟩
        · cases accepted
      · exact .inl (countDrop_memory _)
    case h_2 seq payload body =>
      split
      · unfold State.dataArrives
        split
        · exact .inl rfl
        · exact .inl rfl
        · next b decided =>
          obtain ⟨-, free, fits⟩ := decideRoom_accept (decideData_room decided (.inr ⟨b, rfl⟩))
          exact .inr ⟨payload, b, ⟨.inr ⟨seq, body⟩, free, fits⟩, rfl⟩
      · exact .inl rfl
    case h_3 => split <;> exact .inl rfl
    case h_4 word value =>
      split
      · unfold State.noticeArrives; dsimp only; split <;> exact .inl rfl
      · exact .inl rfl
    all_goals exact .inl rfl

/-- What follows the decision on a frame neither hears a peer nor touches packet memory. -/
theorem reported_unheard (s : State) (f : Frame) (own : Bool) :
    Unheard s (((s.creditHeard f own).judgeWatch f).finding true) :=
  ((creditHeard_keeps s f own).unmoved.trans (judgeWatch_unmoved _ f)).toUnheard.trans (finding_unheard _ true)

theorem reported_event (s : State) (f : Frame) (own : Bool) :
    EventKeeps s (((s.creditHeard f own).judgeWatch f).finding true) :=
  ((creditHeard_event s f own).trans (judgeWatch_event _ f)).trans (finding_event _ true)

theorem frameReported_memory (s : State) (f : Frame) (active own : Bool) :
    (s.frameReported f active own).memory = s.memory ∨
      ∃ payload b, s.storesIn f payload b ∧
        (s.frameReported f active own).memory = s.memory.writeOctets b.address.val payload := by
  have only := claimValid_only s f
  obtain ⟨memory, inboxes⟩ := observe_blocks (s.claimValid f) f own
  unfold State.frameReported
  rw [(reported_unheard _ f own).memory]
  cases own with
  | true => exact .inl (memory.trans only.memory)
  | false =>
    rw [if_neg Bool.false_ne_true]
    rcases arrival_memory ((s.claimValid f).observe f false) f active with same | ⟨payload, b, stores, written⟩
    · exact .inl (same.trans (memory.trans only.memory))
    · refine .inr ⟨payload, b, ?_, by rw [written, memory, only.memory]⟩
      simpa only [State.storesIn, State.inbox, inboxes, only.inboxes] using stores

theorem frameReported_peer (s : State) (f : Frame) (active own : Bool) (p : Station) :
    ((s.frameReported f active own).peer p).state = (s.peer p).state ∨
      ((s.frameReported f active own).attention.peerChange = true ∧ (s.peer p).state ≠ .present ∧
        ((s.frameReported f active own).peer p).state = .present ∧ p ≠ s.own) := by
  have only := claimValid_only s f
  have observed := observe_peer (s.claimValid f) f own p
  rw [only.peer, only.own] at observed
  have arrived : (((if own then (s.claimValid f).observe f own
      else ((s.claimValid f).observe f own).arrival f active)).peer p).state =
        (((s.claimValid f).observe f own).peer p).state ∧
      EventKeeps ((s.claimValid f).observe f own) (if own then (s.claimValid f).observe f own
        else ((s.claimValid f).observe f own).arrival f active) := by
    split
    · exact ⟨rfl, .refl _⟩
    · exact ⟨arrival_peer .., arrival_event ..⟩
  unfold State.frameReported
  rw [(reported_unheard _ f own).peer, arrived.1]
  rcases observed with same | ⟨latched, before, after, other⟩
  · exact .inl same
  · exact .inr ⟨(reported_event _ f own).peerChange (arrived.2.peerChange latched), before, after, other⟩

end

/-! ### Packet memory outside what is written -/

theorem readCells_writeCells_ne {n m : Nat} (h : m ≠ n) (v : Octet) (l : List Host.Cell) :
    readCells (writeCells l n v) m = readCells l m := by
  induction l with
  | nil =>
    unfold writeCells
    split
    · rfl
    · exact if_neg (Ne.symm h)
  | cons c rest ih =>
    obtain ⟨a, w⟩ := c
    unfold writeCells
    split
    · split
      · rfl
      · exact if_neg (Ne.symm h)
    · split
      · next e =>
        have skipped : readCells ((a, w) :: rest) m = readCells rest m := if_neg (by rw [← e]; exact Ne.symm h)
        split
        · exact skipped.symm
        · exact (if_neg (Ne.symm h)).trans skipped.symm
      · simp only [readCells, ih]

theorem read_write_ne {a b : Nat} (h : b ≠ a) (m : Memory) (v : Octet) : (m.write a v).read b = m.read b := by
  unfold Memory.write Memory.read
  split
  · exact readCells_writeCells_ne h v m.cells
  · rfl

theorem read_writeOctets_outside (m : Memory) (a : Nat) (l : List Octet) {b : Nat}
    (h : ¬ (a ≤ b ∧ b < a + l.length)) : (m.writeOctets a l).read b = m.read b := by
  induction l generalizing m a with
  | nil => rfl
  | cons v rest ih =>
    rw [List.length_cons] at h
    rw [Memory.writeOctets, ih _ _ (by omega), read_write_ne (by omega)]

/-! ### The obligations -/

/-- What a host command but CONFIGURE, RESTART, LEAVE, JOIN and MEM_WRITE does, and what these do to the board. -/
theorem perform_board (s : State) (x : Instr) (restart : ∀ a r l, x ≠ .restart a r l) :
    (s.perform x).state.straps = s.straps ∧ (s.perform x).state.rst = s.rst ∧
      (s.settings.isSome = true → (s.perform x).state.settings = s.settings) := by
  have unmoved {t : State} (h : Unmoved s t) : t.straps = s.straps ∧ t.rst = s.rst ∧
      (s.settings.isSome = true → t.settings = s.settings) := ⟨h.board.1, h.board.2.1, fun _ => h.board.2.2⟩
  cases x
  case restart a r l => exact absurd rfl (restart a r l)
  case configure l =>
    simp only [State.perform, State.configureAnswer]
    split
    · exact ⟨rfl, rfl, fun _ => rfl⟩
    · next fresh =>
      split
      · exact ⟨rfl, rfl, fun taken => absurd taken fresh⟩
      · exact ⟨rfl, rfl, fun _ => rfl⟩
  case leave =>
    simp only [State.perform, State.leaveAnswer]
    split
    · split <;> exact ⟨rfl, rfl, fun _ => rfl⟩
    · exact ⟨rfl, rfl, fun _ => rfl⟩
  case join => simp only [State.perform, State.joinAnswer]; split <;> exact ⟨rfl, rfl, fun _ => rfl⟩
  case memWrite => simp only [State.perform, State.memWriteAnswer]; split <;> exact ⟨rfl, rfl, fun _ => rfl⟩
  all_goals exact unmoved (perform_unmoved s (by rfl))

theorem perform_memory (s : State) (x : Instr) (write : ∀ a n l, x ≠ .memWrite a n l) :
    (s.perform x).state.memory = s.memory := by
  cases x
  case memWrite a n l => exact absurd rfl (write a n l)
  case restart => rfl
  case configure =>
    simp only [State.perform, State.configureAnswer]
    split
    · rfl
    · split <;> rfl
  case leave =>
    simp only [State.perform, State.leaveAnswer]
    split
    · split <;> rfl
    · rfl
  case join => simp only [State.perform, State.joinAnswer]; split <;> rfl
  all_goals exact (perform_unmoved s (by rfl)).memory

/-- Settles O13: the settings change by no event and by the commands that a reset or CONFIGURE is; packet memory is
written by MEM_WRITE and by an acceptance alone, which stores in the head buffer. -/
theorem settingsAndMemoryChangeOnlyByTheirCommands : Obligations.SettingsAndMemoryChangeOnlyByTheirCommands := by
  unfold Obligations.SettingsAndMemoryChangeOnlyByTheirCommands
  refine ⟨fun c s t reset restart h => ?_, fun c s t h reset write frame => ?_, fun line s t h => ?_⟩
  · rcases exec_comes_to h reset with ⟨event, -⟩ | ⟨p, rfl⟩ | ⟨-, -, p, rfl⟩
    · obtain ⟨u, hu, kept⟩ := exec_event event s
      cases h.symm.trans hu
      exact ⟨kept.straps, kept.rst, fun _ => kept.settings⟩
    · exact ⟨rfl, rfl, fun _ => rfl⟩
    · exact perform_board s (s.acting c) restart
  · rcases exec_comes_to h reset with ⟨event, -⟩ | ⟨p, rfl⟩ | ⟨-, -, p, rfl⟩
    · by_cases silence : ∃ p, c = .silenceTimerExpiry p
      · obtain ⟨p, rfl⟩ := silence
        cases h
        exact silenceExpired_memory s p
      · exact (exec_unheard event frame (fun p e => silence ⟨p, e⟩) h).memory
    · rfl
    · exact perform_memory s (s.acting c) write
  · rcases exec_validFrameEnd_cases h with invalid | ⟨f, hj, -, -, rfl⟩
    · exact .inl (invalidActivityEnd_unheard invalid).memory
    · have ended := afterActivity_only s (assemble line).octets
      rcases frameReported_memory (s.afterActivity (assemble line).octets) f (decide (s.claim.state = .active))
        s.ownFrame with same | ⟨payload, b, ⟨body, ⟨rest, free⟩, fits⟩, written⟩
      · exact .inl (same.trans ended.memory)
      · rw [ended.inbox] at free
        refine .inr ⟨f, payload, b, rest, hj, body, free, fits, fun a outside => ?_⟩
        rw [written, read_writeOctets_outside _ _ _ outside, ended.memory]

/-- Settles O33. -/
theorem peerStatesChangeOnlyAsTabled : Obligations.PeerStatesChangeOnlyAsTabled := by
  unfold Obligations.PeerStatesChangeOnlyAsTabled
  intro c s t p h reset restart
  rcases exec_comes_to h reset with ⟨event, -⟩ | ⟨p, rfl⟩ | ⟨-, -, p', rfl⟩
  · by_cases silence : ∃ r, c = .silenceTimerExpiry r
    · obtain ⟨r, rfl⟩ := silence
      cases h
      unfold State.silenceExpired
      dsimp only
      split
      · next expired =>
        by_cases hp : r = p
        · subst hp
          refine .inr ⟨rfl, .inl ⟨expired.1, ?_, rfl⟩⟩
          change ((s.setPeer r _).peer r).state = .silent
          rw [setPeer_peer, if_pos rfl]
        · left
          change ((s.setPeer r _).peer p).state = _
          rw [setPeer_peer, if_neg hp]
      · exact .inl rfl
    · by_cases frame : ∃ l, c = .validFrameEnd l
      · obtain ⟨l, rfl⟩ := frame
        rcases exec_validFrameEnd_cases h with invalid | ⟨f, -, -, -, rfl⟩
        · exact .inl ((invalidActivityEnd_unheard invalid).peer p)
        · have ended := afterActivity_only s (assemble l).octets
          have heard := frameReported_peer (s.afterActivity (assemble l).octets) f
            (decide (s.claim.state = .active)) s.ownFrame p
          rw [ended.peer, ended.own] at heard
          exact heard.imp id fun ⟨latched, before, after, other⟩ => ⟨latched, .inr ⟨before, after, other, l, rfl⟩⟩
      · exact .inl ((exec_unheard event (fun l e => frame ⟨l, e⟩) (fun r e => silence ⟨r, e⟩) h).peer p)
  · exact .inl rfl
  · left
    change ((s.perform (s.acting c)).state.peer p).state = _
    generalize s.acting c = x at restart
    cases x
    case restart a r l => exact absurd rfl (restart a r l)
    case configure l =>
      simp only [State.perform, State.configureAnswer]
      split
      · rfl
      · split
        · change ((s.setPeer s.own _).peer p).state = _
          rw [setPeer_peer]
          split
          · next e => rw [← e]; rfl
          · rfl
        · rfl
    case leave =>
      simp only [State.perform, State.leaveAnswer]
      split
      · split <;> rfl
      · rfl
    case join => simp only [State.perform, State.joinAnswer]; split <;> rfl
    case memWrite => simp only [State.perform, State.memWriteAnswer]; split <;> rfl
    all_goals exact (perform_unmoved s (by rfl)).peer p

end Sys2Proof.Machine
end

section
/-!
PROOFS. Which commands move the station's trunk state (R18) and L (R20).
-/

namespace Sys2Proof.Machine

section
variable {s : State}

/-! ### The claim unit at the ends of activities -/

theorem claimValid_claim (s : State) (f : Frame) :
    (s.claimValid f).claim.lastWinner = (if f.body.claimed then f.src else s.claim.lastWinner) ∧
      ((s.claimValid f).claim.state = s.claim.state ∨
        s.claim.state = .listening ∧ (s.claimValid f).claim.state = .active) := by
  unfold State.claimValid
  split
  · dsimp only
    split
    · next listening => exact ⟨rfl, .inr ⟨listening, rfl⟩⟩
    · exact ⟨rfl, .inl rfl⟩
  · split <;> exact ⟨rfl, .inl rfl⟩

theorem claimInvalid_claim (s : State) :
    s.claimInvalid.claim.lastWinner = 31 ∧ s.claimInvalid.claim.state = s.claim.state := by
  unfold State.claimInvalid
  dsimp only
  split <;> exact ⟨rfl, rfl⟩

/-- R20: L after a valid frame's end. -/
theorem frameReported_lastWinner (s : State) (f : Frame) (active own : Bool) :
    (s.frameReported f active own).claim.lastWinner = if f.body.claimed then f.src else s.claim.lastWinner := by
  rw [frameReported_eq, (finding_keeps _ true).lastWinner, (beforeFinding_station ..).claim]
  exact (claimValid_claim s f).1

/-- The blocks told of invalid activity before the finding on an own transmission. -/
theorem invalidReported_station (s : State) :
    StationKeeps s.claimInvalid ((s.claimInvalid.countInvalid).closeWatch none) :=
  (countInvalid_station _).trans (closeWatch_station _ none)

theorem invalidReported_lastWinner (s : State) :
    (((s.claimInvalid.countInvalid).closeWatch none).finding false).claim.lastWinner = 31 := by
  rw [(finding_keeps _ false).lastWinner, (invalidReported_station s).claim]
  exact (claimInvalid_claim s).1

/-- R18, R33, R160: the trunk state after the end of invalid activity. -/
theorem invalidActivityEnd_state {line : List Character} {t : State}
    (h : exec (.invalidActivityEnd line) s = .next t) : t.claim.state = s.claim.state ∨
      (s.claim.leaveDeferred = true ∧ t.claim.state = .offline) ∨
      (s.claim.state = .active ∧ s.trunk.transmission.isSome ∧ t.claim.state = .quiet) := by
  by_cases stuck : s.trunk.line = .stuck
  · cases (exec_invalidActivityEnd_stuck stuck line).symm.trans h
    exact .inl rfl
  · obtain ⟨-, -, ended⟩ := afterActivity_claim s (assemble line).octets
    cases hs : s.settings with
    | none =>
      cases (exec_ends_unconfigured line stuck hs).1.symm.trans h
      exact ended.imp id .inl
    | some set =>
      cases (exec_invalidActivityEnd_configured stuck (by rw [hs]; rfl) line).symm.trans h
      have station := invalidReported_station (s.afterActivity (assemble line).octets)
      have state := (claimInvalid_claim (s.afterActivity (assemble line).octets)).2
      have transmission := (claimInvalid_only (s.afterActivity (assemble line).octets)).transmission.trans
        (afterActivity_only s (assemble line).octets).transmission
      rcases (finding_keeps ((((s.afterActivity (assemble line).octets).claimInvalid.countInvalid).closeWatch
        none)) false).state with ⟨same, -⟩ | ⟨sent, active, quiet⟩
      · rw [same, station.claim, state]
        exact ended.imp id .inl
      · rw [station.claim, state] at active
        rw [station.transmission, transmission] at sent
        rcases ended with same | ⟨-, offline⟩
        · exact .inr (.inr ⟨same.symm.trans active, sent, quiet⟩)
        · rw [offline] at active; cases active

/-- R18, R26, R31, R33, R160: the trunk state after the end of a valid frame. -/
theorem validFrameEnd_state {line : List Character} {t : State}
    (h : exec (.validFrameEnd line) s = .next t) : t.claim.state = s.claim.state ∨
      (s.claim.leaveDeferred = true ∧ t.claim.state = .offline) ∨
      (s.claim.state = .listening ∧ t.claim.state = .active) ∨
      (s.trunk.transmission.isSome ∧ t.claim.state = .quiet ∧
        (s.claim.state = .active ∨ s.claim.state = .listening)) := by
  rcases exec_validFrameEnd_cases h with invalid | ⟨f, -, -, -, rfl⟩
  · rcases invalidActivityEnd_state invalid with same | left | ⟨active, sent, quiet⟩
    · exact .inl same
    · exact .inr (.inl left)
    · exact .inr (.inr (.inr ⟨sent, quiet, .inl active⟩))
  · obtain ⟨-, -, ended⟩ := afterActivity_claim s (assemble line).octets
    have claimed := (claimValid_claim (s.afterActivity (assemble line).octets) f).2
    have station := beforeFinding_station (s.afterActivity (assemble line).octets) f
      (decide (s.claim.state = .active)) s.ownFrame
    have transmission := (claimValid_only (s.afterActivity (assemble line).octets) f).transmission.trans
      (afterActivity_only s (assemble line).octets).transmission
    rw [frameReported_eq]
    rcases (finding_keeps ((s.afterActivity (assemble line).octets).beforeFinding f
      (decide (s.claim.state = .active)) s.ownFrame) true).state with ⟨same, -⟩ | ⟨sent, active, quiet⟩
    · rw [same, station.claim]
      rcases claimed with kept | ⟨listening, joined⟩
      · rw [kept]; exact ended.imp id .inl
      · rcases ended with still | ⟨-, offline⟩
        · exact .inr (.inr (.inl ⟨still.symm.trans listening, joined⟩))
        · rw [offline] at listening; cases listening
    · rw [station.claim] at active
      rw [station.transmission, transmission] at sent
      refine .inr (.inr (.inr ⟨sent, quiet, ?_⟩))
      rcases claimed with kept | ⟨listening, -⟩ <;> rcases ended with still | ⟨-, offline⟩
      · exact .inl (still.symm.trans (kept.symm.trans active))
      · rw [kept, offline] at active; cases active
      · exact .inr (still.symm.trans listening)
      · rw [offline] at listening; cases listening

/-- R163 to R165: what is told of a stuck line at once in a configured state. -/
theorem enterStuck_configured (h : s.configured = true) : s.enterStuck = { s with
    trunk := { s.trunk with line := .stuck, reply := none },
    attention := { s.attention with lineStuck := true },
    claim := { s.claim with state := .listening, leaveDeferred := false, joinCount := none, quietTimer := none } } := by
  unfold State.enterStuck
  rw [if_pos h]
  rfl

theorem enterStuck_unconfigured (h : ¬ s.configured = true) : s.enterStuck = s.setLine .stuck := if_neg h

/-- R165: the line found stuck leaves a configured station LISTENING, and L as it was. -/
theorem lineFoundStuck_claim {line : List Character} {t : State} (h : exec (.lineFoundStuck line) s = .next t) :
    t.claim.lastWinner = s.claim.lastWinner ∧
      (t.claim.state = s.claim.state ∨ s.settings.isSome = true ∧ t.claim.state = .listening) := by
  by_cases stuck : s.trunk.line = .stuck
  · simp only [exec, execLineFoundStuck, stuck] at h
    cases h
    exact ⟨rfl, .inl rfl⟩
  · cases (exec_lineFoundStuck stuck line).symm.trans h
    have begun := activityBegins_claim s
    rw [lineStuck_eq]
    split
    · next configured =>
      have entered : (s.activityBegins.keepOctets (assemble line).octets).enterStuck.claim.state = .listening ∧
          (s.activityBegins.keepOctets (assemble line).octets).enterStuck.claim.lastWinner =
            s.claim.lastWinner := by
        rw [enterStuck_configured (s := s.activityBegins.keepOctets (assemble line).octets) configured]
        exact ⟨rfl, begun.2.2⟩
      have station := closeWatch_station (s.activityBegins.keepOctets (assemble line).octets).enterStuck none
      have found := finding_keeps ((s.activityBegins.keepOctets (assemble line).octets).enterStuck.closeWatch none) false
      refine ⟨by rw [found.lastWinner, station.claim, entered.2], .inr ⟨?_, ?_⟩⟩
      · rwa [← (activityBegins_only s).settings]
      · rcases found.state with ⟨same, -⟩ | ⟨-, active, -⟩
        · rw [same, station.claim, entered.1]
        · rw [station.claim, entered.1] at active; cases active
    · next unconfigured =>
      rw [enterStuck_unconfigured (s := s.activityBegins.keepOctets (assemble line).octets) unconfigured]
      exact ⟨begun.2.2, .inl begun.2.1⟩

theorem transmitMismatch_claim {t : State} (h : exec .transmitMismatch s = .next t) :
    t.claim.lastWinner = s.claim.lastWinner ∧
      (t.claim.state = s.claim.state ∨ s.claim.leaveDeferred = true ∧ t.claim.state = .offline) := by
  simp only [exec, execTransmitMismatch] at h
  split at h
  · cases h
    split
    · unfold State.mismatchFound State.finishLeave
      split
      · next deferred => exact ⟨rfl, .inr ⟨deferred, rfl⟩⟩
      · exact ⟨rfl, .inl rfl⟩
    · exact ⟨rfl, .inl rfl⟩
  · cases h; exact ⟨rfl, .inl rfl⟩

theorem lineReturns_claim (s : State) : s.lineReturns.claim.lastWinner =
    (if s.settings.isSome then 31 else s.claim.lastWinner) := by
  have ended : s.lineEnds.claim.lastWinner = s.claim.lastWinner := by
    unfold State.lineEnds State.finishLeave
    dsimp only
    split
    · split <;> rfl
    · rfl
  have settings : s.lineEnds.configured = s.settings.isSome :=
    congrArg Option.isSome (lineEnds_only s).settings
  unfold State.lineReturns
  dsimp only
  rw [settings]
  split
  · rw [countInvalid_claim]
    exact (claimInvalid_claim _).1
  · exact ended

/-! ### Host commands -/

theorem perform_lastWinner (s : State) (x : Instr) (restart : ∀ a r l, x ≠ .restart a r l) :
    (s.perform x).state.claim.lastWinner = s.claim.lastWinner := by
  cases x
  case restart a r l => exact absurd rfl (restart a r l)
  case configure l =>
    simp only [State.perform, State.configureAnswer]
    split
    · rfl
    · split <;> rfl
  case leave =>
    simp only [State.perform, State.leaveAnswer]
    split
    · split <;> rfl
    · rfl
  case join => simp only [State.perform, State.joinAnswer]; split <;> rfl
  case memWrite => simp only [State.perform, State.memWriteAnswer]; split <;> rfl
  all_goals exact (perform_unmoved s (by rfl)).lastWinner

/-- Settles O29: L is moved by the claim unit at the ends of activities, and after that by no block. -/
theorem lastWinnerFollowsClaimedFrames : Obligations.LastWinnerFollowsClaimedFrames := by
  unfold Obligations.LastWinnerFollowsClaimedFrames
  refine ⟨fun line f s hj hend hs => ?_, fun line s hs => ⟨fun stuck => ?_, fun stuck => ?_⟩,
    fun c s t h reset restart join ends => ?_⟩
  · refine ⟨_, exec_validFrameEnd_configured hj hend hs, ?_⟩
    rw [frameReported_lastWinner, (afterActivity_claim s _).1]
  · exact ⟨_, exec_invalidActivityEnd_configured stuck hs line, invalidReported_lastWinner _⟩
  · refine ⟨s.lineReturns, by simp only [exec, execReturnToIdle, stuck], ?_⟩
    rw [lineReturns_claim, if_pos hs]
  · rcases exec_comes_to h reset with ⟨event, -⟩ | ⟨p, rfl⟩ | ⟨-, -, p, rfl⟩
    · have unconfigured (ending : (∃ l, c = .validFrameEnd l) ∨ (∃ l, c = .invalidActivityEnd l) ∨
          c = .returnToIdle) : s.settings = none := by
        rcases ends with none | ⟨frame, invalid, returns⟩
        · exact none
        · rcases ending with ⟨l, e⟩ | ⟨l, e⟩ | e
          · exact absurd e (frame l)
          · exact absurd e (invalid l)
          · exact absurd e returns
      have stays {l : List Character} (hs : s.settings = none) (e : exec (.invalidActivityEnd l) s = .next t) :
          t.claim.lastWinner = s.claim.lastWinner := by
        by_cases stuck : s.trunk.line = .stuck
        · cases (exec_invalidActivityEnd_stuck stuck l).symm.trans e; rfl
        · cases (exec_ends_unconfigured l stuck hs).1.symm.trans e
          exact (afterActivity_claim s _).1
      cases c <;> simp only [isEvent, Bool.false_eq_true] at event
      case validFrameEnd l =>
        have hs := unconfigured (.inl ⟨l, rfl⟩)
        rcases exec_validFrameEnd_cases h with invalid | ⟨f, -, -, configured, -⟩
        · exact stays hs invalid
        · rw [hs] at configured; cases configured
      case invalidActivityEnd l => exact stays (unconfigured (.inr (.inl ⟨l, rfl⟩))) h
      case returnToIdle =>
        have returned := lineReturns_claim s
        rw [unconfigured (.inr (.inr rfl))] at returned
        simp only [exec, execReturnToIdle] at h
        split at h <;> cases h
        · exact returned
        all_goals rfl
      case lineFoundStuck => exact (lineFoundStuck_claim h).1
      case transmitMismatch => exact (transmitMismatch_claim h).1
      case joinQuiet => exact absurd rfl join
      case quietTimerExpiry => cases h; split <;> rfl
      case silenceTimerExpiry p => cases h; exact congrArg ClaimUnit.lastWinner (silenceExpired_claim ..)
      all_goals exact (exec_quiet rfl h).lastWinner
    · rfl
    · exact perform_lastWinner s (s.acting c) restart

/-- Settles O30. -/
theorem trunkStateChangesOnlyAsTabled : Obligations.TrunkStateChangesOnlyAsTabled := by
  unfold Obligations.TrunkStateChangesOnlyAsTabled
  intro c s t timers h
  by_cases reset : ∃ a r l v w, c = .hardReset a r l v w
  · obtain ⟨a, r, l, v, w, rfl⟩ := reset
    cases h
    rw [acting_of_not_host rfl]
    exact .inr rfl
  rcases exec_comes_to h (fun a r l v w e => reset ⟨a, r, l, v, w, e⟩) with ⟨event, acts⟩ | ⟨p, rfl⟩ | ⟨-, -, p, rfl⟩
  · rw [acts]
    cases c <;> simp only [isEvent, Bool.false_eq_true] at event
    case validFrameEnd l => exact validFrameEnd_state h
    case invalidActivityEnd l => exact invalidActivityEnd_state h
    case returnToIdle =>
      left
      have ended : s.lineEnds.claim.state = s.claim.state ∨ s.trunk.line = .activeTx := by
        unfold State.lineEnds
        dsimp only
        split
        · next tx => exact .inr tx
        · exact .inl rfl
      simp only [exec, execReturnToIdle] at h
      split at h <;> cases h
      · next stuck =>
        have kept : s.lineEnds.claim.state = s.claim.state := by
          rcases ended with kept | tx
          · exact kept
          · rw [stuck] at tx; cases tx
        unfold State.lineReturns
        dsimp only
        split
        · rw [countInvalid_claim, (claimInvalid_claim _).2, kept]
        · exact kept
      all_goals rfl
    case lineFoundStuck =>
      refine (lineFoundStuck_claim h).2.imp id fun ⟨configured, listening⟩ => ⟨fun e => ?_, listening⟩
      rw [timers.configured.mp e] at configured
      cases configured
    case transmitMismatch => exact (transmitMismatch_claim h).2
    case joinQuiet =>
      cases h
      split
      · next join => exact .inr ⟨join.1, rfl⟩
      · exact .inl rfl
    case quietTimerExpiry =>
      cases h
      split
      · next ended => exact .inr ⟨ended.1, rfl⟩
      · exact .inl rfl
    case silenceTimerExpiry p => cases h; exact .inl (congrArg ClaimUnit.state (silenceExpired_claim ..))
    all_goals exact .inl (exec_quiet rfl h).state
  · exact .inl rfl
  · change (s.perform (s.acting c)).state.claim.state = _ ∨ _
    generalize s.acting c = x
    cases x
    case restart => exact .inr rfl
    case configure l =>
      simp only [State.perform, State.configureAnswer]
      split
      · exact .inl rfl
      · next fresh =>
        split
        · refine .inr ⟨timers.configured.mpr ?_, rfl⟩
          simpa [State.configured] using fresh
        · exact .inl rfl
    case leave =>
      simp only [State.perform, State.leaveAnswer]
      split
      · next on =>
        split
        · exact .inl rfl
        · next line => exact .inr ⟨on, line, rfl⟩
      · exact .inl rfl
    case join =>
      simp only [State.perform, State.joinAnswer]
      split
      · next offline => exact .inr ⟨offline, rfl⟩
      · exact .inl rfl
    case memWrite => simp only [State.perform, State.memWriteAnswer]; split <;> exact .inl rfl
    all_goals exact .inl (perform_unmoved s (by rfl)).state

end

end Sys2Proof.Machine
end

section
/-!
PROOFS. Leaving and joining (R33, R34), the stuck line (R163 to R166), and collided transmissions (R84, R157 to R161).
-/

namespace Sys2Proof.Machine

section
variable {s : State}

/-! ### LEAVE and JOIN -/

/-- The station has left the trunk, and no activity is on it. -/
def State.leftTrunk (s : State) : Prop := s.claim.state = .offline ∧ s.claim.leaveDeferred = false ∧
  s.claim.joinCount = none ∧ s.claim.quietTimer = none ∧ s.trunk.line = .idle

theorem State.leftTrunk.station {t : State} (h : s.leftTrunk) (k : StationKeeps s t) : t.leftTrunk := by
  unfold State.leftTrunk
  rw [k.claim, k.line]
  exact h

theorem State.leftTrunk.finding (h : s.leftTrunk) (valid : Bool) : (s.finding valid).leftTrunk := by
  have found := finding_keeps s valid
  obtain ⟨offline, leave, join, quiet, line⟩ := h
  rcases found.state with ⟨state, timer⟩ | ⟨-, active, -⟩
  · exact ⟨state.trans offline, found.leaveDeferred.trans leave, found.joinCount.trans join, timer.trans quiet,
      found.line.trans line⟩
  · rw [offline] at active; cases active

theorem State.leftTrunk.claimInvalid (h : s.leftTrunk) : s.claimInvalid.leftTrunk := by
  obtain ⟨offline, leave, join, quiet, line⟩ := h
  rw [claimInvalid_eq line]
  exact ⟨offline, leave, (if_neg (by rw [offline]; exact nofun)).trans join, quiet, line⟩

theorem State.leftTrunk.claimValid (h : s.leftTrunk) (f : Frame) : (s.claimValid f).leftTrunk := by
  obtain ⟨offline, leave, join, quiet, line⟩ := h
  have idle : s.claim.state ≠ .listening := by rw [offline]; exact nofun
  unfold State.claimValid
  dsimp only
  rw [if_neg (show (s.setLastWinner f.src).claim.state ≠ .listening from idle), if_neg idle]
  split <;> exact ⟨offline, leave, join, quiet, line⟩

/-- R33: a LEAVE deferred is done when the own transmission's activity ends. -/
theorem afterActivity_leftTrunk (octets : List Octet) (leave : s.claim.leaveDeferred = true)
    (line : s.trunk.line = .activeTx) : (s.afterActivity octets).leftTrunk := by
  rw [afterActivity_left s octets leave line]
  exact ⟨rfl, rfl, rfl, rfl, rfl⟩

theorem invalidActivityEnd_leftTrunk (line : List Character) (leave : s.claim.leaveDeferred = true)
    (tx : s.trunk.line = .activeTx) (hs : s.settings.isSome = true) :
    ∃ t, exec (.invalidActivityEnd line) s = .next t ∧ t.leftTrunk :=
  ⟨_, exec_invalidActivityEnd_configured (by rw [tx]; exact nofun) hs line,
    ((afterActivity_leftTrunk _ leave tx).claimInvalid.station (invalidReported_station _)).finding false⟩

theorem validFrameEnd_leftTrunk (line : List Character) (leave : s.claim.leaveDeferred = true)
    (tx : s.trunk.line = .activeTx) (hs : s.settings.isSome = true) :
    ∃ t, exec (.validFrameEnd line) s = .next t ∧ t.leftTrunk := by
  by_cases seen : judge line = none ∨ s.trunk.unseenStart = true
  · rw [exec_validFrameEnd_invalid seen]
    exact invalidActivityEnd_leftTrunk line leave tx hs
  · obtain ⟨judged, started⟩ := not_or.mp seen
    obtain ⟨f, hf⟩ := Option.ne_none_iff_exists'.mp judged
    refine ⟨_, exec_validFrameEnd_configured hf ⟨by rw [tx]; exact nofun, by simpa using started⟩ hs, ?_⟩
    rw [frameReported_eq]
    exact (((afterActivity_leftTrunk _ leave tx).claimValid f).station (beforeFinding_station ..)).finding true

theorem onTrunk_iff (x : TrunkState) : x.onTrunk = true ↔ x ≠ .unconfigured ∧ x ≠ .offline := by
  cases x <;> decide

/-- Settles O15. -/
theorem leaveAndJoinMoveTheStation : Obligations.LeaveAndJoinMoveTheStation := by
  unfold Obligations.LeaveAndJoinMoveTheStation
  refine ⟨fun s hl hs known => ⟨fun on line => ?_, fun on line => ?_, fun offline => ?_⟩,
    fun line s leave tx hs => ?_, fun s hl hs => ⟨fun offline => ?_, fun on => ?_⟩⟩
  · have onTrunk : s.claim.state.onTrunk = true := (onTrunk_iff _).mpr ⟨known, on⟩
    refine exec_done hl rfl rfl (.inr hs) ?_
    simp only [State.perform, State.leaveAnswer, onTrunk, line, if_true, if_false]
    rfl
  · have onTrunk : s.claim.state.onTrunk = true := (onTrunk_iff _).mpr ⟨known, on⟩
    refine exec_done hl rfl rfl (.inr hs) ?_
    simp only [State.perform, State.leaveAnswer, onTrunk, line, if_true]
    rfl
  · refine exec_refused hl rfl rfl (.inr hs) (st := .refusedState) ?_ (by decide)
    simp only [State.perform, State.leaveAnswer, offline, TrunkState.onTrunk, Bool.false_eq_true, if_false]
  · obtain ⟨t, valid, leftValid⟩ := validFrameEnd_leftTrunk line leave tx hs
    obtain ⟨u, invalid, leftInvalid⟩ := invalidActivityEnd_leftTrunk line leave tx hs
    exact ⟨t, u, valid, leftValid, invalid, leftInvalid⟩
  · refine exec_done hl rfl rfl (.inr hs) ?_
    simp only [State.perform, State.joinAnswer, offline, if_true]
    rfl
  · refine exec_refused hl rfl rfl (.inr hs) (st := .refusedState) ?_ (by decide)
    simp only [State.perform, State.joinAnswer, on, if_false]

/-! ### The counters at the close of a watch -/

theorem closeWatch_none_counters (hs : s.settings.isSome = true) : (s.closeWatch none).counters =
    if s.trunk.watch.isSome then { s.counters with noReply := min 65535 (s.counters.noReply + 1) }
    else s.counters := by
  have closed := (closeWatch_keeps s none).counters
  rw [closed]
  simp only [and_true]
  split
  · rw [countNoReply_eq (s := s.setTrunk { s.trunk with watch := none }) hs]; rfl
  · rfl

theorem closeWatch_trunk (s : State) (r : Option (ReplyCode × ReplyFields)) :
    (s.closeWatch r).trunk = { s.trunk with watch := none } := by
  rw [(closeWatch_keeps s r).trunk]
  split
  · rw [countNoReply_trunk]; rfl
  · rfl

/-- R167: a watch counts no more than a missing reply. -/
theorem judgeWatch_counters (s : State) (f : Frame) : (s.judgeWatch f).counters.collisions = s.counters.collisions ∧
    (s.judgeWatch f).counters.invalid = s.counters.invalid := by
  obtain ⟨r, hr⟩ := judgeWatch_closes s f
  rw [hr, (closeWatch_keeps s r).counters]
  split
  · unfold State.countNoReply
    split <;> exact ⟨rfl, rfl⟩
  · exact ⟨rfl, rfl⟩

/-! ### A collided transmission -/

/-- R160: the eighth collision in a row of an ACTIVE station. -/
theorem collidedBy_quiet {item : Item} (claimed : item.claimed = true) (active : s.claim.state = .active)
    (eighth : 7 ≤ s.claim.collisionCount) (hs : s.settings.isSome = true) : s.collidedBy item = { s with
      trunk := { s.trunk with transmission := none, reply := none },
      counters := { s.counters with collisions := min 65535 (s.counters.collisions + 1) },
      claim := { s.claim with state := .quiet, collisionCount := 0, quietTimer := some 4096 },
      attention := { s.attention with quietEntered := true } } := by
  have full : satAdd collisionLimit s.claim.collisionCount 1 = collisionLimit :=
    Nat.min_eq_left (by unfold collisionLimit; omega)
  unfold State.collidedBy State.claimCollided
  rw [if_pos claimed, countCollision_eq (s := s.setTrunk { s.trunk with transmission := none }) hs]
  simp only [setCounters_claim, setTrunk_claim, setClaim_claim, full, active, and_self, if_true]
  rfl

/-- R159: a collision that sends the station nowhere. -/
theorem collidedBy_stays {item : Item} (claimed : item.claimed = true)
    (stays : s.claim.state ≠ .active ∨ s.claim.collisionCount < 7) (hs : s.settings.isSome = true) :
    s.collidedBy item = { s with
      trunk := { s.trunk with transmission := none },
      counters := { s.counters with collisions := min 65535 (s.counters.collisions + 1) },
      claim := { s.claim with collisionCount := min 8 (s.claim.collisionCount + 1) } } := by
  have notQuiet : ¬ (satAdd collisionLimit s.claim.collisionCount 1 = collisionLimit ∧ s.claim.state = .active) := by
    rintro ⟨full, active⟩
    rcases stays with other | few
    · exact other active
    · have short : satAdd collisionLimit s.claim.collisionCount 1 ≤ s.claim.collisionCount + 1 := Nat.min_le_right ..
      rw [full] at short
      unfold collisionLimit at short
      omega
  unfold State.collidedBy State.claimCollided
  rw [if_pos claimed, countCollision_eq (s := s.setTrunk { s.trunk with transmission := none }) hs]
  exact if_neg notQuiet

/-- R161: a collided REPLY. -/
theorem collidedBy_reply (hs : s.settings.isSome = true) : s.collidedBy .reply = { s with
    trunk := { s.trunk with transmission := none },
    counters := { s.counters with collisions := min 65535 (s.counters.collisions + 1) } } := by
  unfold State.collidedBy
  rw [countCollision_eq (s := s.setTrunk { s.trunk with transmission := none }) hs]
  rfl

/-- What a collided finding counts and leaves, whatever the item. -/
theorem collidedBy_rest (s : State) (item : Item) (hs : s.settings.isSome = true) :
    (s.collidedBy item).counters = { s.counters with collisions := min 65535 (s.counters.collisions + 1) } ∧
      (s.collidedBy item).trunk.watch = s.trunk.watch ∧ (s.trunk.reply = none → (s.collidedBy item).trunk.reply = none) ∧
      s.collidedBy item = { s with
        trunk := (s.collidedBy item).trunk, claim := (s.collidedBy item).claim,
        counters := (s.collidedBy item).counters, attention := (s.collidedBy item).attention } := by
  cases claimed : item.claimed with
  | true =>
    by_cases quiet : s.claim.state = .active ∧ 7 ≤ s.claim.collisionCount
    · rw [collidedBy_quiet claimed quiet.1 quiet.2 hs]
      exact ⟨rfl, rfl, fun _ => rfl, rfl⟩
    · rw [collidedBy_stays claimed (by rw [← Nat.not_le]; exact not_and_or.mp quiet) hs]
      exact ⟨rfl, rfl, id, rfl⟩
  | false =>
    have reply : item = .reply := by
      cases item with
      | reply => rfl
      | freshStart | credit | queue | presence => cases claimed
    rw [reply, collidedBy_reply hs]
    exact ⟨rfl, rfl, id, rfl⟩

end

end Sys2Proof.Machine
end

section
/-!
PROOFS. The stuck line (R163 to R166), collisions (R84, R157 to R161), and the clean ends of the station's own
PRESENCE and CREDIT (R20, R27, R44, R133).
-/

namespace Sys2Proof.Machine

section
variable {s : State}

/-! ### A finding of collision, and what it leaves of the trunk interface and the counters -/

theorem finding_false_keeps (hs : s.settings.isSome = true) :
    (s.finding false).counters = (if s.trunk.transmission.isSome
      then { s.counters with collisions := min 65535 (s.counters.collisions + 1) } else s.counters) ∧
    (s.finding false).trunk.watch = s.trunk.watch ∧
    (s.trunk.reply = none → (s.finding false).trunk.reply = none) := by
  cases h : s.trunk.transmission with
  | none => rw [finding_of_none h]; exact ⟨rfl, rfl, id⟩
  | some tx =>
    have keeps := finding_collided_keeps s h (valid := false) (Bool.false_and _)
    obtain ⟨counters, watch, reply, -⟩ := collidedBy_rest s tx.item hs
    exact ⟨keeps.counters.trans counters, by rw [keeps.trunk, watch], fun none => by rw [keeps.trunk, reply none]⟩

/-! ### The stuck line -/

theorem exec_lineFoundStuck_configured (stuck : s.trunk.line ≠ .stuck) (hs : s.settings.isSome = true)
    (line : List Character) : exec (.lineFoundStuck line) s =
      .next (((s.activityBegins.keepOctets (assemble line).octets).enterStuck.closeWatch none).finding false) := by
  have configured : s.activityBegins.configured = true := by
    unfold State.configured
    rwa [(activityBegins_only s).settings]
  rw [exec_lineFoundStuck stuck, lineStuck_eq, if_pos configured]

/-- The station as the stuck line leaves it, before the exchanges end. -/
theorem enterStuck_found (hs : s.settings.isSome = true) (octets : List Octet) :
    (s.activityBegins.keepOctets octets).enterStuck = { s with
      trunk := { s.trunk with
        line := .stuck, received := octets.take 521, receivedCount := octets.length, reply := none },
      attention := { s.attention with lineStuck := true },
      claim := { s.claim with state := .listening, leaveDeferred := false, joinCount := none, quietTimer := none } } := by
  have configured : (s.activityBegins.keepOctets octets).configured = true := by
    change s.activityBegins.settings.isSome = true
    rwa [(activityBegins_only s).settings]
  rw [enterStuck_configured configured, activityBegins_eq]
  rfl

/-- Settles O27. -/
theorem stuckLineSendsTheStationListening : Obligations.StuckLineSendsTheStationListening := by
  unfold Obligations.StuckLineSendsTheStationListening
  refine ⟨fun line s stuck hs => ?_, fun line s stuck busy hs => ?_, fun s stuck hs => ?_⟩
  · rw [exec_lineFoundStuck_configured stuck hs, enterStuck_found hs]
    generalize hu : ({ s with
      trunk := { s.trunk with
        line := .stuck, received := (assemble line).octets.take 521, receivedCount := (assemble line).octets.length,
        reply := none },
      attention := { s.attention with lineStuck := true },
      claim := { s.claim with
        state := .listening, leaveDeferred := false, joinCount := none, quietTimer := none } } : State) = u
    have settings : u.settings.isSome = true := by rw [← hu]; exact hs
    have station := closeWatch_station u none
    have found := finding_keeps (u.closeWatch none) false
    obtain ⟨counters, watch, reply⟩ := finding_false_keeps (s := u.closeWatch none)
      (by rw [station.settings]; exact settings)
    have state : ((u.closeWatch none).finding false).claim.state = .listening ∧
        ((u.closeWatch none).finding false).claim.quietTimer = none := by
      rcases found.state with ⟨state, timer⟩ | ⟨-, active, -⟩
      · rw [state, timer, station.claim, ← hu]; exact ⟨rfl, rfl⟩
      · rw [station.claim, ← hu] at active; cases active
    rw [closeWatch_none_counters settings, station.transmission] at counters
    refine ⟨_, rfl, ?_, ?_, state.1, ?_, state.2, ?_, ?_, ?_, ?_, finding_transmission _ false, ?_, ?_, ?_, ?_, ?_, ?_⟩
    · rw [found.line, station.line, ← hu]
    · exact (finding_event _ false).lineStuck ((closeWatch_event u none).lineStuck (by rw [← hu]))
    · rw [found.joinCount, station.claim, ← hu]
    · rw [found.leaveDeferred, station.claim, ← hu]
    · rw [found.lastWinner, station.claim, ← hu]
    · rw [found.lastUrgent, station.claim, ← hu]
    · rw [found.lastRoutine, station.claim, ← hu]
    · rw [watch, closeWatch_trunk]
    · exact reply (by rw [closeWatch_trunk, ← hu])
    · rw [found.received, station.received, ← hu]
    all_goals
      rw [counters, ← hu]
      cases s.trunk.transmission <;> cases s.trunk.watch <;> rfl
  · have unconfigured : ¬ (s.activityBegins.keepOctets (assemble line).octets).configured = true := by
      change ¬ s.activityBegins.settings.isSome = true
      rw [(activityBegins_only s).settings, hs]
      exact nofun
    have begun : s.activityBegins = s := if_neg busy
    rw [exec_lineFoundStuck stuck, lineStuck_eq,
      if_neg (show ¬ s.activityBegins.configured = true from unconfigured), enterStuck_unconfigured unconfigured, begun]
    rfl
  · have settings : (s.lineEnds).settings.isSome = true := by rw [(lineEnds_only s).settings]; exact hs
    have idle : s.lineEnds.trunk.line = .idle := by rw [lineEnds_stuck stuck]
    have returned : s.lineReturns = s.lineEnds.claimInvalid.countInvalid := if_pos settings
    rw [exec_returnToIdle stuck, returned, claimInvalid_eq idle,
      countInvalid_eq (by rw [setClaim_settings]; exact settings), lineEnds_stuck stuck]
    rfl

/-! ### Collisions -/

/-- R13: the end of invalid activity where no LEAVE is deferred, before the exchanges end. -/
def State.invalidHeard (s : State) (octets : List Octet) : State :=
  { s with
    trunk := { s.trunk with
      line := .idle, unseenStart := false, received := octets.take 521, receivedCount := octets.length,
      reply := if s.trunk.line = .idle then none else s.trunk.reply },
    claim := { s.claim with
      lastWinner := 31, idleTime := 0,
      joinCount := if s.claim.state = .listening then some 0
        else if s.trunk.line = .idle then none else s.claim.joinCount },
    counters := { s.counters with invalid := min 65535 (s.counters.invalid + 1) } }

theorem exec_invalidActivityEnd_heard (line : List Character) (stuck : s.trunk.line ≠ .stuck)
    (leave : s.claim.leaveDeferred = false) (hs : s.settings.isSome = true) :
    exec (.invalidActivityEnd line) s =
      .next (((s.invalidHeard (assemble line).octets).closeWatch none).finding false) := by
  have idle := (afterActivity_trunk s (assemble line).octets).1
  rw [exec_invalidActivityEnd_configured stuck hs, claimInvalid_eq idle,
    countInvalid_eq (by rw [setClaim_settings, (afterActivity_receiver s _).settings]; exact hs),
    afterActivity_eq s _ leave]
  rfl

/-- R84: a collided frame leaves its running queue with no SEQ sent. -/
theorem frameNotSent_running {q : QueueIx} {c : Context} (h : s.queue q = .running c) :
    s.frameNotSent q = s.setQueue q (.running { c with seqSent := none }) := by
  unfold State.frameNotSent
  rw [h]
  rfl

theorem arrival_counters (s : State) (f : Frame) (active : Bool) :
    (s.arrival f active).counters.collisions = s.counters.collisions ∧
      (s.arrival f active).counters.invalid = s.counters.invalid ∧
      (s.arrival f active).counters.noReply = s.counters.noReply := by
  unfold State.arrival
  split
  · exact ⟨rfl, rfl, rfl⟩
  · split
    case h_1 payload =>
      unfold State.bcastArrives
      split
      · exact ⟨rfl, rfl, rfl⟩
      · unfold State.dropBcast State.countDrop
        split <;> exact ⟨rfl, rfl, rfl⟩
    case h_2 seq payload =>
      split
      · unfold State.dataArrives; split <;> exact ⟨rfl, rfl, rfl⟩
      · exact ⟨rfl, rfl, rfl⟩
    case h_3 => split <;> exact ⟨rfl, rfl, rfl⟩
    case h_4 word value =>
      split
      · unfold State.noticeArrives; dsimp only; split <;> exact ⟨rfl, rfl, rfl⟩
      · exact ⟨rfl, rfl, rfl⟩
    all_goals exact ⟨rfl, rfl, rfl⟩

/-- R20: a station that is not LISTENING takes L alone from a valid frame. -/
theorem claimValid_settled (h : s.claim.state ≠ .listening) (f : Frame) :
    s.claimValid f = if f.body.claimed then s.setLastWinner f.src else s := by
  unfold State.claimValid
  dsimp only
  rw [if_neg h, if_neg (show (s.setLastWinner f.src).claim.state ≠ .listening from h)]

/-- Settles O26: the finding is the last that the end of the activity comes to. -/
theorem collidedClaimsLeadToQuiet : Obligations.CollidedClaimsLeadToQuiet := by
  unfold Obligations.CollidedClaimsLeadToQuiet
  refine ⟨fun line s tx sent stuck busy leave hs => ?_, fun line f s tx hj hsrc hend sent claimed cut leave hs active => ?_⟩
  · rw [exec_invalidActivityEnd_heard line stuck leave hs]
    generalize hu : s.invalidHeard (assemble line).octets = u
    have sentStill : (u.closeWatch none).trunk.transmission = some tx := by rw [closeWatch_trunk, ← hu]; exact sent
    have settings : u.settings.isSome = true := by rw [← hu]; exact hs
    have station := closeWatch_station u none
    have settingsStill : (u.closeWatch none).settings.isSome = true := by rw [station.settings]; exact settings
    have found := finding_keeps (u.closeWatch none) false
    have keeps := finding_collided_keeps (u.closeWatch none) sentStill (valid := false) (Bool.false_and _)
    have closed := closeWatch_keeps u none
    have counters := closeWatch_none_counters (s := u) settings
    have claim : (u.closeWatch none).claim = (s.invalidHeard (assemble line).octets).claim := by
      rw [station.claim, ← hu]
    obtain ⟨count, -, -, rest⟩ := collidedBy_rest (u.closeWatch none) tx.item settingsStill
    refine ⟨_, rfl, ?_, ?_, finding_transmission _ false, ?_, ?_, fun claimed active eighth => ?_,
      fun claimed stays => ?_, fun reply => ?_, fun q g c item running watch => ?_⟩
    · rw [found.lastWinner, claim]; rfl
    · rw [found.idleTime, claim]; rfl
    · rw [keeps.counters, count, counters, ← hu]
      split <;> rfl
    · rw [keeps.counters, count, counters, ← hu]
      split <;> rfl
    · have quiet := collidedBy_quiet (s := u.closeWatch none) claimed (by rw [claim]; exact active)
        (by rw [claim]; exact eighth) settingsStill
      rw [keeps.claim, keeps.trunk, keeps.latches, quiet]
      exact ⟨rfl, rfl, rfl, rfl, rfl⟩
    · have same := collidedBy_stays (s := u.closeWatch none) claimed (by rw [claim]; exact stays) settingsStill
      have latches : (u.closeWatch none).attention.quietEntered = s.attention.quietEntered := by
        rw [closed.latches, ← hu]
        split
        · rw [countNoReply_attention]; rfl
        · rfl
      rw [keeps.claim, keeps.latches, same]
      dsimp only
      rw [claim]
      exact ⟨rfl, rfl, rfl, latches⟩
    · have unmoved := closeWatch_unmoved u none
      have same : (u.closeWatch none).inboxes = s.inboxes ∧ (u.closeWatch none).words = s.words ∧
          ∀ p, ((u.closeWatch none).peer p).receive = (s.peer p).receive := by
        have entries (p : Station) : ((u.closeWatch none).peer p).receive = (s.peer p).receive := by
          rw [(closed.peer p).2.2.2, ← hu]
          split
          · simp only [State.peer, countNoReply_peers]; rfl
          · rfl
        refine ⟨?_, ?_, entries⟩
        · rw [closed.inboxes, ← hu]; split <;> simp <;> rfl
        · rw [closed.words, ← hu]; split <;> simp <;> rfl
      rw [keeps.claim, keeps.inboxes, keeps.words, keeps.memory, reply, collidedBy_reply settingsStill]
      refine ⟨by rw [claim]; rfl, by rw [claim]; rfl, same.1, same.2.1, ?_, fun p i => ?_⟩
      · exact unmoved.memory.trans (by rw [← hu]; rfl)
      · have kept := (keeps.peer p).2.2.2
        rw [reply, collidedBy_reply settingsStill] at kept
        change (((u.closeWatch none).finding false).peer p).receive[i] = _
        rw [kept]
        change ((u.closeWatch none).peer p).receive[i] = (s.peer p).receive[i]
        rw [same.2.2 p]
    · have open' : u.closeWatch none = u := closeWatch_of_none (by rw [← hu]; exact watch) none
      rw [open'] at rest settingsStill ⊢
      have quiet : u.finding false = (u.collidedBy tx.item).frameNotSent q := by
        rw [finding_collided u (by rw [← hu]; exact sent) (valid := false) (Bool.false_and _), item]
      have queues : (u.collidedBy tx.item).queues = s.queues := by rw [rest, ← hu]; rfl
      have still : (u.collidedBy tx.item).queue q = .running c := by
        simp only [State.queue, queues]; exact running
      rw [quiet, frameNotSent_running still]
      refine ⟨by rw [setQueue_queue, if_pos rfl], fun r hr => ?_, ?_, ?_, ?_⟩
      · rw [setQueue_queue, if_neg (Ne.symm hr)]
        simp only [State.queue, queues]
      all_goals
        rw [rest, ← hu]
        rfl
  · have notOwn : s.ownFrame = false := by
      unfold State.ownFrame
      rw [sent]
      exact beq_eq_false_iff_ne.mpr cut
    rw [exec_validFrameEnd_heard hj hsrc hend hs notOwn, decide_eq_true active]
    have only := atFrameEnd_only s line f
    have heard := hearSource_station (s.atFrameEnd line f) f
    have arrived := arrival_station ((s.atFrameEnd line f).hearSource f) f true
    have counted := arrival_counters ((s.atFrameEnd line f).hearSource f) f true
    have credited := creditHeard_keeps (((s.atFrameEnd line f).hearSource f).arrival f true) f false
    have judged := judgeWatch_station ((((s.atFrameEnd line f).hearSource f).arrival f true).creditHeard f false) f
    have judgedCounters := judgeWatch_counters
      ((((s.atFrameEnd line f).hearSource f).arrival f true).creditHeard f false) f
    have reported := reported_unheard (((s.atFrameEnd line f).hearSource f).arrival f true) f false
    generalize hw : ((((s.atFrameEnd line f).hearSource f).arrival f true).creditHeard f false).judgeWatch f = w
      at judged judgedCounters reported
    have station := ((heard.trans arrived).trans credited.station).trans judged
    have sentStill : w.trunk.transmission = some tx := by
      rw [station.transmission, only.transmission, sent]
    have settings : w.settings.isSome = true := by rw [station.settings, only.settings]; exact hs
    have notClean : (true && tx.clean) = false := beq_eq_false_iff_ne.mpr cut
    have keeps := finding_collided_keeps w sentStill notClean
    obtain ⟨count, -⟩ := collidedBy_rest w tx.item settings
    have claim : w.claim.state = .active ∧ w.claim.collisionCount = s.claim.collisionCount ∧
        w.claim.lastWinner = if f.body.claimed then f.src else s.claim.lastWinner := by
      have still : (s.afterActivity (assemble line).octets).claim.state ≠ .listening := by
        rw [afterActivity_eq s _ leave]
        change s.claim.state ≠ .listening
        rw [active]
        exact nofun
      rw [station.claim, State.atFrameEnd, claimValid_settled still, afterActivity_eq s _ leave]
      split <;> exact ⟨active, rfl, rfl⟩
    have blocks := hear_blocks_hearSource (s.atFrameEnd line f) f
    refine ⟨_, rfl, finding_transmission _ true, ?_, ?_, ?_, ?_, fun eighth => ?_, fun few => ?_⟩
    · rw [(finding_keeps w true).lastWinner, claim.2.2]
    · rw [keeps.counters, count]
      dsimp only
      rw [judgedCounters.1, credited.counters, counted.1, blocks.2.1, only.counters]
    · rw [keeps.counters, count]
      dsimp only
      rw [judgedCounters.2, credited.counters, counted.2.1, blocks.2.1, only.counters]
    · rw [reported.peer, arrival_peer]
      unfold State.hearSource
      rw [hear_peer, if_pos rfl]
      rfl
    · have quiet := collidedBy_quiet (s := w) claimed claim.1 (by rw [claim.2.1]; exact eighth) settings
      rw [keeps.claim, keeps.latches, quiet]
      exact ⟨rfl, rfl, rfl, rfl⟩
    · have same := collidedBy_stays (s := w) claimed (.inr (by rw [claim.2.1]; exact few)) settings
      rw [keeps.claim, same]
      refine ⟨claim.1, ?_⟩
      dsimp only
      rw [claim.2.1]
      omega

/-! ### The own PRESENCE and CREDIT -/

theorem observe_own {f : Frame} (claimed : f.body.claimed = true) : s.observe f true = s.ownFrameHeard := by
  unfold State.observe
  rw [if_pos rfl, if_pos claimed]

theorem creditHeard_own (s : State) (f : Frame) : s.creditHeard f true = s := by
  unfold State.creditHeard
  split
  · exact if_pos (.inl rfl)
  · rfl

/-- Settles O34. -/
theorem ownCleanPresenceIsHeardByItself : Obligations.OwnCleanPresenceIsHeardByItself := by
  unfold Obligations.OwnCleanPresenceIsHeardByItself
  intro line f s tx hj claimed hsrc sent complete line' seen watch leave active hs item
  have clean : tx.clean = true := by
    unfold Transmission.clean
    rw [complete]
    rfl
  have own : s.ownFrame = true := by
    unfold State.ownFrame
    rw [sent]
    exact clean
  have notIdle : s.trunk.line ≠ .idle := by rw [line']; exact nofun
  have notListening : s.claim.state ≠ .listening := by rw [active]; exact nofun
  have ended := afterActivity_eq s (assemble line).octets leave
  rw [if_neg notIdle, if_neg notIdle] at ended
  have still : (s.afterActivity (assemble line).octets).claim.state ≠ .listening := by
    rw [ended]; exact notListening
  have heard : (s.afterActivity (assemble line).octets).beforeFinding f true true = { s with
      trunk := { s.trunk with
        line := .idle, unseenStart := false, received := (assemble line).octets.take 521,
        receivedCount := (assemble line).octets.length },
      claim := { s.claim with lastWinner := f.src, idleTime := 0 },
      peers := { s.peers with presenceTimer := some 0, presenceDue := false } } := by
    unfold State.beforeFinding
    rw [if_pos rfl, claimValid_settled still, if_pos claimed, observe_own claimed, creditHeard_own, ended,
      judgeWatch_of_none]
    · rfl
    · exact watch
  rw [exec_validFrameEnd_configured hj ⟨by rw [line']; exact nofun, seen⟩ hs, own, decide_eq_true active,
    frameReported_eq, heard, finding_clean (tx := tx)]
  · rcases item with item | item | ⟨i, item⟩ <;> rw [item]
    · exact ⟨_, rfl, by rw [hsrc]; rfl, rfl, rfl, rfl, rfl, fun i => rfl, rfl, rfl⟩
    · exact ⟨_, rfl, by rw [hsrc]; rfl, rfl, rfl, rfl, rfl, fun i => rfl, rfl, rfl⟩
    · refine ⟨_, rfl, by rw [hsrc]; rfl, rfl, rfl, rfl, rfl, fun j => ?_, rfl, rfl⟩
      rw [State.cleanBy]
      dsimp only
      rw [State.creditSent, setInbox_inbox]
      simp only [Item.credit.injEq]
      split
      · next e => rw [e]; rfl
      · rfl
  · exact sent
  · exact clean

end

end Sys2Proof.Machine
end

section
/-!
PROOFS. What the hearing of another station's frame leaves (R38, R39, R46 to R50, R99), and CREDIT (R121, R126).
-/

namespace Sys2Proof.Machine

/-! ### The state in which a frame is decided -/

/-- R14: the state at a valid frame's end once its source has been heard. -/
def State.heardBy (s : State) (line : List Character) (f : Frame) : State := (s.atFrameEnd line f).hearSource f

/-- What the end of a frame `f` of another station and the hearing of its source make of `s`. -/
structure HeardAs (s : State) (f : Frame) (u : State) : Prop where
  straps : u.straps = s.straps
  settings : u.settings = s.settings
  inboxes : u.inboxes = s.inboxes
  words : u.words = s.words
  counters : u.counters = s.counters
  memory : u.memory = s.memory
  store : u.store = s.store
  log : u.log = s.log
  presence : u.peers.presenceTimer = s.peers.presenceTimer ∧ u.peers.presenceDue = s.peers.presenceDue
  receivePair : ∀ p i, u.receivePair p i = s.recordHeard f p i
  hint : ∀ p i, u.hint p i = s.hintHeard f p i
  sendPair : ∀ p i, u.sendPair p i = s.pairHeard f p i
  queue : ∀ q, u.queue q = s.queueHeard f (s.queue q)
  queues : s.reveals f = false → u.queues = s.queues
  other : ∀ p, p ≠ f.src → u.peer p = s.peer p
  source : (u.peer f.src).state = .present ∧ (u.peer f.src).epoch = some f.epoch ∧ (u.peer f.src).silence = some 0
  peerChange : u.attention.peerChange = true ↔ s.attention.peerChange = true ∨ (s.peer f.src).state ≠ .present
  peerRestart : u.attention.peerRestart = true ↔ s.attention.peerRestart = true ∨ s.reveals f = true
  reply : u.trunk.reply = if s.trunk.line = .idle then none else s.trunk.reply
  idle : u.trunk.line = .idle ∧ u.trunk.unseenStart = false
  exchanges : u.trunk.watch = s.trunk.watch ∧ u.trunk.transmission = s.trunk.transmission
  leave : u.claim.leaveDeferred = false
  active : s.claim.state = .active → u.claim.state = .active
  queueIdle : u.attention.queueIdle = s.attention.queueIdle

section
variable (s : State) (f : Frame)

theorem hear_presence (p : Station) (e : Epoch) (fresh : Bool) :
    (s.hear p e fresh).peers.presenceTimer = s.peers.presenceTimer ∧
      (s.hear p e fresh).peers.presenceDue = s.peers.presenceDue := by
  unfold State.hear
  dsimp only
  split <;> split <;> exact ⟨rfl, rfl⟩

theorem hearSource_latches : (s.hearSource f).attention = { s.attention with
    peerChange := s.attention.peerChange || !decide ((s.peer f.src).state = .present),
    peerRestart := s.attention.peerRestart || (s.peer f.src).restartedBy f.epoch f.body.freshStart } := by
  unfold State.hearSource State.hear
  dsimp only
  split
  · next restarted =>
    split
    · next present => simp only [restarted, present, decide_true, Bool.not_true, Bool.or_false, Bool.or_true]; rfl
    · next absent => simp only [restarted, absent, decide_false, Bool.not_false, Bool.or_true]; rfl
  · next same =>
    rw [Bool.not_eq_true] at same
    split
    · next present => simp only [same, present, decide_true, Bool.not_true, Bool.or_false]; rfl
    · next absent => simp only [same, absent, decide_false, Bool.not_false, Bool.or_true, Bool.or_false]; rfl

theorem hearSource_queues (same : (s.peer f.src).restartedBy f.epoch f.body.freshStart = false) :
    (s.hearSource f).queues = s.queues := by
  unfold State.hearSource State.hear
  dsimp only
  rw [same, if_neg Bool.false_ne_true]
  split <;> rfl

theorem claimValid_trunk : (s.claimValid f).trunk = s.trunk ∧
    (s.claimValid f).claim.leaveDeferred = s.claim.leaveDeferred := by
  unfold State.claimValid
  split
  · dsimp only; split <;> exact ⟨rfl, rfl⟩
  · split <;> exact ⟨rfl, rfl⟩

/-- The trunk interface when the line and the claim unit have been told of a frame's end. -/
theorem atFrameEnd_trunk (line : List Character) (leave : s.claim.leaveDeferred = false) :
    (s.atFrameEnd line f).trunk = { s.trunk with
      line := .idle, unseenStart := false, received := (assemble line).octets.take 521,
      receivedCount := (assemble line).octets.length,
      reply := if s.trunk.line = .idle then none else s.trunk.reply } := by
  rw [State.atFrameEnd, (claimValid_trunk _ f).1, afterActivity_eq s _ leave]

theorem atFrameEnd_leave (line : List Character) (leave : s.claim.leaveDeferred = false) :
    (s.atFrameEnd line f).claim.leaveDeferred = false := by
  rw [State.atFrameEnd, (claimValid_trunk _ f).2, afterActivity_eq s _ leave]
  exact leave

/-- R26: a station that is ACTIVE stays so at a valid frame's end, but for a LEAVE. -/
theorem atFrameEnd_active (line : List Character) (leave : s.claim.leaveDeferred = false)
    (active : s.claim.state = .active) : (s.atFrameEnd line f).claim.state = .active := by
  have ended : (s.afterActivity (assemble line).octets).claim.state = .active := by
    rw [afterActivity_eq s _ leave]
    exact active
  rcases (claimValid_claim (s.afterActivity (assemble line).octets) f).2 with same | ⟨-, joined⟩
  · exact same.trans ended
  · exact joined

variable {s f}

theorem heardBy_as (hsrc : f.src ≠ s.own) (leave : s.claim.leaveDeferred = false) (line : List Character) :
    HeardAs s f (s.heardBy line f) := by
  have only := atFrameEnd_only s line f
  have other : f.src ≠ (s.atFrameEnd line f).own := by rw [only.own]; exact hsrc
  have heard := hearSource_receiver (s.atFrameEnd line f) f
  have latches := hearSource_latches (s.atFrameEnd line f) f
  obtain ⟨inboxes, counters, memory, store, log⟩ := hear_blocks_hearSource (s.atFrameEnd line f) f
  have reveals := reveals_eq other
  rw [only.reveals] at reveals
  have presence := hear_presence (s.atFrameEnd line f) f.src f.epoch f.body.freshStart
  rw [only.peers] at presence
  have peer (p : Station) : (s.heardBy line f).peer p =
      if f.src = p then (s.peer f.src).heard f.epoch f.body.freshStart else s.peer p := by
    rw [State.heardBy, State.hearSource, hear_peer, only.peer, only.peer]
  refine ⟨heard.straps.trans only.straps, heard.settings.trans only.settings, inboxes.trans only.inboxes,
    heard.words.trans only.words, counters.trans only.counters, memory.trans only.memory, store.trans only.store,
    log.trans only.log, presence, fun p i => ?_, fun p i => ?_, fun p i => ?_, fun q => ?_, fun same => ?_,
    fun p hp => ?_, ?_, ?_, ?_, ?_, ?_, ?_, ?_, fun active => ?_, ?_⟩
  · rw [State.heardBy, hearSource_receivePair other, only.recordHeard]
  · rw [State.heardBy, hearSource_hint other, only.hintHeard]
  · rw [State.heardBy, hearSource_sendPair other, only.pairHeard]
  · rw [State.heardBy, hearSource_queue other, only.queueHeard, only.queue]
  · exact (hearSource_queues _ _ (reveals.symm.trans same)).trans only.queues
  · rw [peer, if_neg (Ne.symm hp)]
  · rw [peer, if_pos rfl]
    exact ⟨rfl, rfl, rfl⟩
  · rw [State.heardBy, latches, only.attention, only.peer]
    simp
  · rw [State.heardBy, latches, only.attention, ← reveals]
    simp
  · rw [State.heardBy, hearSource_trunk, atFrameEnd_trunk s f line leave]
  · rw [State.heardBy, hearSource_trunk, atFrameEnd_trunk s f line leave]
    exact ⟨rfl, rfl⟩
  · rw [State.heardBy, hearSource_trunk, atFrameEnd_trunk s f line leave]
    exact ⟨rfl, rfl⟩
  · rw [State.heardBy, (hearSource_station _ f).claim]
    exact atFrameEnd_leave s f line leave
  · rw [State.heardBy, (hearSource_station _ f).claim]
    exact atFrameEnd_active s f line leave active
  · rw [State.heardBy, latches, only.attention]

end

namespace HeardAs

variable {s u : State} {f : Frame} (h : HeardAs s f u)
include h

theorem own : u.own = s.own := by simp only [State.own, h.straps]
theorem inbox (i : InboxIx) : u.inbox i = s.inbox i := by simp only [State.inbox, h.inboxes]
theorem word (w : WordIx) : u.word w = s.word w := by simp only [State.word, h.words]
theorem inboxSetting (i : InboxIx) : u.inboxSetting i = s.inboxSetting i := by
  simp only [State.inboxSetting, h.settings]
theorem replyTo (p : Station) (ch : InboxIx) (code : Octet) (last : Seq) (fresh : Bool) (offer : Offer) :
    u.replyTo p ch code last fresh offer = s.replyTo p ch code last fresh offer := by
  simp only [State.replyTo, State.epoch, h.own, h.settings]

end HeardAs

section
variable {s : State} {f : Frame} {line : List Character}

/-- R14: the end of another station's frame where nothing of this station is under way. -/
theorem exec_validFrameEnd_decided (hj : judge line = some f) (hsrc : f.src ≠ s.own) (hend : s.canEnd)
    (hs : s.settings.isSome = true) (un : s.uninvolved) : ∃ u, HeardAs s f u ∧
      exec (.validFrameEnd line) s =
        .next ((u.arrival f (decide (s.claim.state = .active))).creditHeard f false) :=
  ⟨s.heardBy line f, heardBy_as hsrc un.2.2 line, exec_validFrameEnd_uninvolved hj hsrc hend hs un⟩

/-- R38, R162: a frame that carries the own address and is not this station's is told to the claim unit and to an open
watch alone. -/
theorem exec_validFrameEnd_sameAddress (hj : judge line = some f) (hsrc : f.src = s.own) (hend : s.canEnd)
    (hs : s.settings.isSome = true) (transmission : s.trunk.transmission = none) :
    exec (.validFrameEnd line) s = .next (((s.atFrameEnd line f).judgeWatch f).finding true) := by
  have only := atFrameEnd_only s line f
  have own : f.src = (s.atFrameEnd line f).own := by rw [only.own]; exact hsrc
  have unheard : (s.atFrameEnd line f).observe f false = s.atFrameEnd line f := by
    unfold State.observe
    rw [if_neg Bool.false_ne_true, if_pos own]
  have undecided (active : Bool) : (s.atFrameEnd line f).arrival f active = s.atFrameEnd line f := if_pos own
  have uncredited : (s.atFrameEnd line f).creditHeard f false = s.atFrameEnd line f := by
    unfold State.creditHeard
    split
    · exact if_pos (.inr own)
    · rfl
  rw [exec_validFrameEnd_configured hj hend hs, ownFrame_of_none transmission, frameReported_eq, State.beforeFinding,
    if_neg Bool.false_ne_true]
  change Host.Outcome.next ((((((s.atFrameEnd line f).observe f false).arrival f _).creditHeard f false).judgeWatch
    f).finding true) = _
  rw [unheard, undecided, uncredited]

theorem exec_validFrameEnd_namesake (hj : judge line = some f) (hsrc : f.src = s.own) (hend : s.canEnd)
    (hs : s.settings.isSome = true) (un : s.uninvolved) :
    exec (.validFrameEnd line) s = .next (s.atFrameEnd line f) := by
  obtain ⟨transmission, watch, -⟩ := un
  have only := atFrameEnd_only s line f
  rw [exec_validFrameEnd_sameAddress hj hsrc hend hs transmission, judgeWatch_of_none, finding_of_none]
  · rw [only.transmission, transmission]
  · rw [only.watch, watch]

/-! ### What the decision leaves of the hearing -/

/-- What the inbox unit and the notice words leave: all but their own blocks, the REPLY, and a DATA's record. -/
structure Decided (f : Frame) (s t : State) : Prop where
  queues : t.queues = s.queues
  store : t.store = s.store
  log : t.log = s.log
  attention : t.attention = s.attention
  presence : t.peers.presenceTimer = s.peers.presenceTimer ∧ t.peers.presenceDue = s.peers.presenceDue
  other : ∀ p, p ≠ f.src → t.peer p = s.peer p
  source : t.peer f.src = { s.peer f.src with receive := (t.peer f.src).receive }
  record : ∀ i, ¬ ((∃ seq payload, f.body = .data seq payload) ∧ i = f.ch) →
    t.receivePair f.src i = s.receivePair f.src i

theorem Decided.of_peers {t : State} (queues : t.queues = s.queues) (store : t.store = s.store) (log : t.log = s.log)
    (attention : t.attention = s.attention) (peers : t.peers = s.peers) : Decided f s t where
  queues := queues
  store := store
  log := log
  attention := attention
  presence := by rw [peers]; exact ⟨rfl, rfl⟩
  other p _ := by simp only [State.peer, peers]
  source := by simp only [State.peer, peers]
  record i _ := by simp only [State.receivePair, State.peer, peers]

theorem dataArrives_decided {seq : Seq} {payload : List Octet} (body : f.body = .data seq payload) :
    Decided f s (s.dataArrives f.src f.ch seq payload) := by
  unfold State.dataArrives
  split
  · exact .of_peers rfl rfl rfl rfl rfl
  · exact .of_peers rfl rfl rfl rfl rfl
  · next b _ =>
    have peer (p : Station) : ((((s.acceptInto f.ch b f.src .data payload (some seq)).setReceivePair f.src f.ch
        (some seq))).peer p) = if f.src = p
          then { s.peer f.src with receive := put (s.peer f.src).receive f.ch (some seq) } else s.peer p :=
      setPeer_peer ..
    refine ⟨rfl, rfl, rfl, rfl, ⟨rfl, rfl⟩, fun p hp => ?_, ?_, fun i hi => ?_⟩
    · exact (peer p).trans (if_neg (Ne.symm hp))
    · have source := (peer f.src).trans (if_pos rfl)
      change State.peer (((s.acceptInto f.ch b f.src .data payload (some seq)).setReceivePair f.src f.ch
        (some seq))) f.src = { s.peer f.src with receive := (State.peer (((s.acceptInto f.ch b f.src .data payload
          (some seq)).setReceivePair f.src f.ch (some seq))) f.src).receive }
      rw [source]
    · have beside : f.ch ≠ i := fun e => hi ⟨⟨seq, payload, body⟩, e.symm⟩
      change State.receivePair (((s.acceptInto f.ch b f.src .data payload (some seq)).setReceivePair f.src f.ch
        (some seq))) f.src i = _
      rw [setReceivePair_receivePair, if_neg (fun e => beside e.2)]
      rfl

theorem arrival_decided (s : State) (f : Frame) (active : Bool) : Decided f s (s.arrival f active) := by
  have same : Decided f s s := .of_peers rfl rfl rfl rfl rfl
  unfold State.arrival
  split
  · exact same
  · split
    case h_1 payload body =>
      unfold State.bcastArrives
      split
      · exact .of_peers rfl rfl rfl rfl rfl
      · exact .of_peers (countDrop_queues _) (countDrop_store _) (countDrop_log _) (countDrop_attention _)
          (countDrop_peers _)
    case h_2 seq payload body =>
      split
      · exact dataArrives_decided body
      · exact same
    case h_3 =>
      split
      · exact .of_peers rfl rfl rfl rfl rfl
      · exact same
    case h_4 word value body =>
      split
      · unfold State.noticeArrives; dsimp only; split <;> exact .of_peers rfl rfl rfl rfl rfl
      · exact same
    all_goals exact same

/-! ### CREDIT -/

/-- R126: the release of a HELD queue moves that queue alone. -/
theorem releaseHeld_only (s : State) (p : Station) (i : InboxIx) (offer : Offer) :
    s.releaseHeld p i offer = s.setQueues (s.releaseHeld p i offer).queues := by
  unfold State.releaseHeld
  split
  · rfl
  · split
    · rfl
    · split <;> rfl

theorem releaseHeld_held {p : Station} {i : InboxIx} {offer : Offer} {q : QueueIx} {c : Context} (some' : offer ≠ 0)
    (lock : (s.sendPair p i).lock = some q) (held : s.queue q = .held c) :
    (s.releaseHeld p i offer).queue q = .running { c with hold := none } := by
  unfold State.releaseHeld
  rw [if_neg some', lock]
  dsimp only
  rw [held]
  exact (setQueue_queue ..).trans (if_pos rfl)

theorem releaseHeld_same {p : Station} {i : InboxIx} {offer : Offer} {q : QueueIx}
    (none' : offer = 0 ∨ (s.sendPair p i).lock ≠ some q ∨ ∀ c, s.queue q ≠ .held c) :
    (s.releaseHeld p i offer).queue q = s.queue q := by
  unfold State.releaseHeld
  split
  · rfl
  · next offered =>
    split
    · rfl
    · next r lock =>
      split
      · next c held =>
        rw [setQueue_queue, if_neg]
        rintro rfl
        rcases none' with zero | other | free
        · exact offered zero
        · exact other lock
        · exact free c held
      · rfl

/-- R121: a CREDIT of another station sets the hint of its pair, and may release a queue. -/
theorem creditHeard_eq {offer : Offer} (body : f.body = .credit offer) (hsrc : f.src ≠ s.own) :
    s.creditHeard f false = (s.setHint f.src f.ch (some offer)).releaseHeld f.src f.ch offer := by
  unfold State.creditHeard
  rw [body]
  exact if_neg (by simpa using hsrc)

theorem creditHeard_hint {offer : Offer} (body : f.body = .credit offer) (hsrc : f.src ≠ s.own) (p : Station)
    (i : InboxIx) : (s.creditHeard f false).hint p i = if (f.src, f.ch) = (p, i) then some offer else s.hint p i := by
  rw [creditHeard_eq body hsrc, releaseHeld_only]
  change (s.setHint f.src f.ch (some offer)).hint p i = _
  rw [setHint_hint]
  simp only [Prod.mk.injEq]

/-- A CREDIT moves neither a send pair record nor the blocks that the engine does not write here. -/
theorem creditHeard_rest (s : State) (f : Frame) : (s.creditHeard f false).store = s.store ∧
    (s.creditHeard f false).log = s.log ∧ (s.creditHeard f false).attention = s.attention ∧
    ∀ p, (s.creditHeard f false).peer p = { s.peer p with hints := ((s.creditHeard f false).peer p).hints } := by
  unfold State.creditHeard
  split
  · next offer _ =>
    split
    · exact ⟨rfl, rfl, rfl, fun _ => rfl⟩
    · rw [releaseHeld_only]
      refine ⟨rfl, rfl, rfl, fun p => ?_⟩
      change (s.setHint f.src f.ch (some offer)).peer p =
        { s.peer p with hints := ((s.setHint f.src f.ch (some offer)).peer p).hints }
      rw [State.setHint, setPeer_peer]
      split
      · next e => subst e; rfl
      · rfl
  · exact ⟨rfl, rfl, rfl, fun _ => rfl⟩

theorem creditHeard_peer_other (s : State) (f : Frame) {p : Station} (hp : p ≠ f.src) :
    (s.creditHeard f false).peer p = s.peer p := by
  unfold State.creditHeard
  split
  · split
    · rfl
    · rw [releaseHeld_only]
      change (s.setHint f.src f.ch _).peer p = _
      rw [State.setHint, setPeer_peer, if_neg (Ne.symm hp)]
  · rfl

theorem queueHeard_held (s : State) (f : Frame) (st : QueueState) :
    (∀ c, s.queueHeard f st ≠ .held c) ↔ ∀ c, st ≠ .held c := by
  cases st <;> simp [State.queueHeard]

theorem pairHeard_lock (s : State) (f : Frame) (p : Station) (i : InboxIx) :
    (s.pairHeard f p i).lock = (s.sendPair p i).lock := by
  unfold State.pairHeard
  split <;> rfl

/-- Settles O41. -/
theorem creditSetsTheHintAndReleases : Obligations.CreditSetsTheHintAndReleases := by
  unfold Obligations.CreditSetsTheHintAndReleases
  intro line f offer s hj body hsrc hend un hs
  obtain ⟨u, heard, hexec⟩ := exec_validFrameEnd_decided hj hsrc hend hs un
  have other : f.src ≠ u.own := by rw [heard.own]; exact hsrc
  have undecided (active : Bool) : u.arrival f active = u := by
    unfold State.arrival
    rw [if_neg other, body]
  rw [undecided] at hexec
  obtain ⟨store, -, -, peer⟩ := creditHeard_rest u f
  have keeps := creditHeard_keeps u f false
  refine ⟨_, hexec, ?_, fun p i hpi => ?_, fun p i => ?_, fun q c offered lock held => ?_, fun q stays => ?_,
    store.trans heard.store, keeps.inboxes.trans heard.inboxes, keeps.memory.trans heard.memory⟩
  · rw [creditHeard_hint body other, if_pos rfl]
  · rw [creditHeard_hint body other, if_neg (Ne.symm hpi), heard.hint]
  · rw [← heard.sendPair, State.sendPair, peer]
    rfl
  · rw [creditHeard_eq body other]
    refine releaseHeld_held offered ?_ ?_
    · rw [setHint_sendPair, heard.sendPair, pairHeard_lock, lock]
    · exact (heard.queue q).trans (by rw [held]; rfl)
  · rw [creditHeard_eq body other, releaseHeld_same]
    · exact heard.queue q
    · rw [setHint_sendPair, heard.sendPair, pairHeard_lock]
      refine stays.imp id (Or.imp id fun free => ?_)
      change ∀ c, u.queue q ≠ .held c
      rw [heard.queue]
      exact (queueHeard_held s f _).mpr free

/-! ### Hearing -/

theorem reveals_iff (hsrc : f.src ≠ s.own) : s.reveals f = true ↔
    f.body = .presence true ∨ ∃ old, (s.peer f.src).epoch = some old ∧ old ≠ f.epoch := by
  rw [reveals_eq hsrc, restartedBy_iff, freshStart_iff]

theorem arrival_silent {u : State} (active : Bool) (silent : (∃ fresh, f.body = .presence fresh) ∨
    ∃ code last fresh offer, f.body = .reply code last fresh offer) : u.arrival f active = u := by
  unfold State.arrival
  rcases silent with ⟨fresh, body⟩ | ⟨code, last, fresh, offer, body⟩
  · rw [body]; exact ite_self u
  · rw [body]; exact ite_self u

/-- Settles O31: the entry is as the hearing makes it, and the decision and a CREDIT then add what is theirs. -/
theorem hearingAPeerUpdatesItsEntry : Obligations.HearingAPeerUpdatesItsEntry := by
  unfold Obligations.HearingAPeerUpdatesItsEntry
  intro line f s hj hend un hs hsrc
  obtain ⟨u, heard, hexec⟩ := exec_validFrameEnd_decided hj hsrc hend hs un
  have other : f.src ≠ u.own := by rw [heard.own]; exact hsrc
  have decided := arrival_decided u f (decide (s.claim.state = .active))
  have arrivedOwn : f.src ≠ (u.arrival f (decide (s.claim.state = .active))).own := by
    rw [(arrival_station u f _).own]; exact other
  have silent : ((∃ fresh, f.body = .presence fresh) ∨ ∃ code last fresh offer, f.body = .reply code last fresh offer) →
      u.arrival f (decide (s.claim.state = .active)) = u := arrival_silent _
  generalize u.arrival f (decide (s.claim.state = .active)) = v at silent decided arrivedOwn hexec
  obtain ⟨store, log, attention, peer⟩ := creditHeard_rest v f
  have keeps := creditHeard_keeps v f false
  have reveals := reveals_iff (s := s) (f := f) hsrc
  have uncredited (none : ¬ ∃ offer, f.body = .credit offer) : v.creditHeard f false = v :=
    creditHeard_of_not_credit (fun offer e => none ⟨offer, e⟩) false
  have record (i : InboxIx) (notData : ¬ ((∃ seq payload, f.body = .data seq payload) ∧ i = f.ch)) :
      (v.creditHeard f false).receivePair f.src i = s.recordHeard f f.src i := by
    rw [← heard.receivePair, ← decided.record i notData, State.receivePair, peer]
    rfl
  have hint (i : InboxIx) (notCredit : ¬ ((∃ offer, f.body = .credit offer) ∧ i = f.ch)) :
      (v.creditHeard f false).hint f.src i = s.hintHeard f f.src i := by
    have before : v.hint f.src i = s.hintHeard f f.src i := by
      rw [← heard.hint, State.hint, decided.source]; rfl
    by_cases credit : ∃ offer, f.body = .credit offer
    · obtain ⟨offer, body⟩ := credit
      rw [creditHeard_hint body arrivedOwn, if_neg, before]
      intro e
      exact notCredit ⟨⟨offer, body⟩, (Prod.mk.inj e).2.symm⟩
    · rw [uncredited credit, before]
  have pair (i : InboxIx) : (v.creditHeard f false).sendPair f.src i = s.pairHeard f f.src i := by
    rw [← heard.sendPair, State.sendPair, peer]
    change (v.peer f.src).send[i] = _
    rw [decided.source]
    rfl
  have queue (none : ¬ ∃ offer, f.body = .credit offer) (q : QueueIx) :
      (v.creditHeard f false).queue q = s.queueHeard f (s.queue q) := by
    rw [uncredited none, ← heard.queue, State.queue, decided.queues]
    rfl
  refine ⟨_, hexec, reveals, ?_, ?_, ?_, fun i => ⟨fun restarted => ⟨fun notData => ?_, fun notCredit => ?_, ?_⟩,
    fun same => ⟨fun notData => ?_, fun notCredit => ?_, ?_⟩⟩, fun restarted none q c station unsettled => ?_,
    fun none => ⟨queue none, fun same => ?_⟩, fun p hp => ?_, ?_, ?_, ?_, ?_, ?_, ?_, fun body => ?_⟩
  · rw [peer, decided.source]; exact heard.source.1
  · rw [peer, decided.source]; exact heard.source.2.1
  · rw [peer, decided.source]; exact heard.source.2.2
  · rw [record i notData, State.recordHeard, if_pos ⟨reveals.mpr restarted, rfl⟩]
  · rw [hint i notCredit, State.hintHeard, if_pos ⟨reveals.mpr restarted, rfl⟩]
  · rw [pair i, State.pairHeard, if_pos ⟨reveals.mpr restarted, rfl⟩]
  · rw [record i notData, State.recordHeard, if_neg fun e => same (reveals.mp e.1)]
  · rw [hint i notCredit, State.hintHeard, if_neg fun e => same (reveals.mp e.1)]
  · rw [pair i, State.pairHeard, if_neg fun e => same (reveals.mp e.1)]
  · have step : s.stepHeard f c = { c with
        unconfirmed := false,
        stepAttempts := if c.copy.kind = .message ∧ 3 ≤ (s.sendPair f.src c.copy.inbox).blind then 0
          else c.stepAttempts } := if_pos ⟨reveals.mpr restarted, station, unsettled⟩
    dsimp only
    rw [← step, queue none]
    exact ⟨fun e => by rw [e]; rfl, fun e => by rw [e]; rfl, fun e => by rw [e]; rfl⟩
  · rw [uncredited none, decided.queues]
    exact heard.queues (Bool.eq_false_iff.mpr fun e => same (reveals.mp e))
  · rw [creditHeard_peer_other v f hp, decided.other p hp, heard.other p hp]
  · rw [attention, decided.attention]; exact heard.peerChange
  · rw [attention, decided.attention, heard.peerRestart, reveals]
  · rw [keeps.presence.1, decided.presence.1, heard.presence.1]
  · rw [keeps.presence.2, decided.presence.2, heard.presence.2]
  · rw [store, decided.store, heard.store]
  · rw [log, decided.log, heard.log]
  · rw [keeps.inboxes, keeps.words, keeps.counters, keeps.memory, silent body]
    exact ⟨heard.inboxes, heard.words, heard.counters, heard.memory⟩

end

end Sys2Proof.Machine
end

section
/-!
PROOFS. The decisions on an arriving DATA and BCAST (Table 6-1, R108 to R117, R131).
-/

namespace Sys2Proof.Machine

section
variable {s : State} {p : Station} {i : InboxIx} {seq : Seq} {payload : List Octet}

/-! ### The checks of Table 6-1 -/

theorem dataOpen_iff (s : State) (p : Station) (i : InboxIx) : s.dataOpen p i = true ↔
    (s.inboxSetting i).enabled = true ∧ (s.inboxSetting i).sources.getLsbD p.val = true := by
  unfold State.dataOpen hasStation
  rw [Bool.and_eq_true]

theorem decideData_closed {n : Nat} (closed : ¬ s.dataOpen p i = true) : s.decideData p i seq n = .refuse .closed :=
  if_pos (by simpa using closed)

/-- Past check 1. -/
theorem decideData_open {n : Nat} (isOpen : s.dataOpen p i = true) : s.decideData p i seq n =
    match s.receivePair p i with
    | some last => if seq = last then .refuse .duplicate
        else if seq = last + 1 then s.decideRoom i n else .refuse .outOfStep
    | none => s.decideRoom i n := by
  unfold State.decideData
  rw [isOpen]
  cases s.receivePair p i <;> rfl

theorem decideData_duplicate {n : Nat} (isOpen : s.dataOpen p i = true) (last : s.receivePair p i = some seq) :
    s.decideData p i seq n = .refuse .duplicate := by
  simp only [decideData_open isOpen, last, if_true]

theorem decideData_follows {n : Nat} (isOpen : s.dataOpen p i = true)
    (follows : s.receivePair p i = none ∨ ∃ l, s.receivePair p i = some l ∧ seq = l + 1) :
    s.decideData p i seq n = s.decideRoom i n := by
  rcases follows with fresh | ⟨l, last, rfl⟩
  · simp only [decideData_open isOpen, fresh]
  · have next : l + 1 ≠ l := add_ne_left.mpr (by decide)
    simp only [decideData_open isOpen, last, if_neg next, if_true]

theorem decideData_outOfStep {n : Nat} (isOpen : s.dataOpen p i = true)
    (strays : ¬ (s.receivePair p i = none ∨ ∃ l, s.receivePair p i = some l ∧ seq = l + 1))
    (fresh : s.receivePair p i ≠ some seq) : s.decideData p i seq n = .refuse .outOfStep := by
  cases h : s.receivePair p i with
  | none => exact absurd (.inl h) strays
  | some last =>
    have same : seq ≠ last := fun e => fresh (by rw [h, e])
    have next : seq ≠ last + 1 := fun e => strays (.inr ⟨last, h, e⟩)
    simp only [decideData_open isOpen, h, if_neg same, if_neg next]

theorem decideRoom_noRoom {n : Nat} (none : (s.inbox i).offered = 0) : s.decideRoom i n = .refuse .full := if_pos none

theorem decideRoom_head {n : Nat} {b : Buffer} {rest : List Buffer} (room : (s.inbox i).offered ≠ 0)
    (free : (s.inbox i).free = b :: rest) :
    s.decideRoom i n = if b.capacity < n then .refuse .tooLong else .accept b := by
  unfold State.decideRoom
  rw [if_neg room, free]

theorem offered_ne_zero {x : Inbox} : x.offered ≠ 0 ↔ x.free ≠ [] ∧ x.arrivals.length < 64 := by
  unfold Inbox.offered arrivalLimit
  rw [← List.length_pos_iff]
  omega

/-! ### What a decision comes to -/

theorem dataArrives_refuse {code : ReplyCode} (notFull : code ≠ .full)
    (decided : s.decideData p i seq payload.length = .refuse code) :
    s.dataArrives p i seq payload = s.compose (s.inboxReply p i code) := by
  unfold State.dataArrives
  rw [decided]
  cases code
  case full => exact absurd rfl notFull
  all_goals rfl

theorem dataArrives_full (decided : s.decideData p i seq payload.length = .refuse .full) :
    s.dataArrives p i seq payload = (s.addWaiter p i).compose ((s.addWaiter p i).inboxReply p i .full) := by
  unfold State.dataArrives
  rw [decided]

theorem dataArrives_accept {b : Buffer} (decided : s.decideData p i seq payload.length = .accept b) :
    s.dataArrives p i seq payload =
      ((s.acceptInto i b p .data payload (some seq)).setReceivePair p i (some seq)).compose
        (((s.acceptInto i b p .data payload (some seq)).setReceivePair p i (some seq)).inboxReply p i .accepted) := by
  unfold State.dataArrives
  rw [decided]

theorem arrival_data {f : Frame} (body : f.body = .data seq payload) (hsrc : f.src ≠ s.own) (hdst : f.dst = some s.own) :
    s.arrival f true = s.dataArrives f.src f.ch seq payload := by
  unfold State.arrival
  rw [if_neg hsrc, body]
  simp [hdst]

theorem arrival_bcast {f : Frame} (body : f.body = .bcast payload) (hsrc : f.src ≠ s.own) (active : Bool) :
    s.arrival f active = s.bcastArrives f.src f.ch payload active := by
  unfold State.arrival
  rw [if_neg hsrc, body]

end

/-! ### DATA -/

section
variable {s : State} {f : Frame} {line : List Character} {seq : Seq} {payload : List Octet}

/-- R110: a DATA to an ACTIVE station, as its end hands it to the inbox unit. -/
theorem exec_validFrameEnd_data (hj : judge line = some f) (body : f.body = .data seq payload)
    (hdst : f.dst = some s.own) (hsrc : f.src ≠ s.own) (hend : s.canEnd) (un : s.uninvolved)
    (hs : s.settings.isSome = true) (active : s.claim.state = .active) :
    ∃ u, HeardAs s f u ∧ exec (.validFrameEnd line) s = .next (u.dataArrives f.src f.ch seq payload) := by
  obtain ⟨u, heard, hexec⟩ := exec_validFrameEnd_decided hj hsrc hend hs un
  rw [decide_eq_true active, arrival_data body (by rwa [heard.own]) (by rwa [heard.own]),
    creditHeard_of_not_credit (by rw [body]; exact fun _ => nofun)] at hexec
  exact ⟨u, heard, hexec⟩

/-- R46, R48: the record of a DATA's pair once its source is heard. -/
theorem recordHeard_data (body : f.body = .data seq payload) (hsrc : f.src ≠ s.own) (i : InboxIx) :
    s.recordHeard f f.src i = if ∃ old, (s.peer f.src).epoch = some old ∧ old ≠ f.epoch then none
      else s.receivePair f.src i := by
  have reveals : s.reveals f = true ↔ ∃ old, (s.peer f.src).epoch = some old ∧ old ≠ f.epoch := by
    rw [reveals_iff hsrc, body]
    simp
  unfold State.recordHeard
  simp only [reveals, and_true]

/-- A frame of those kinds that a station must not decide. -/
theorem arrival_undecided {s : State} (f : Frame) (active : Bool)
    (kind : (∃ seq payload, f.body = .data seq payload) ∨ f.body = .step ∨ ∃ w v, f.body = .notice w v)
    (barred : active = false ∨ f.src = s.own ∨ f.dst ≠ some s.own) : s.arrival f active = s := by
  unfold State.arrival
  split
  · rfl
  · next other =>
    have undecided : (active && f.dst == some s.own) = false := by
      rcases barred with inactive | own | elsewhere
      · rw [inactive]; rfl
      · exact absurd own other
      · rw [beq_eq_false_iff_ne.mpr elsewhere, Bool.and_false]
    rcases kind with ⟨seq, payload, body⟩ | body | ⟨w, v, body⟩ <;> rw [body] <;> exact if_neg (by rw [undecided]; exact nofun)

/-- Settles O35. -/
theorem refusedDataFramesAreAnswered : Obligations.RefusedDataFramesAreAnswered := by
  unfold Obligations.RefusedDataFramesAreAnswered
  refine ⟨fun line f seq payload s hj body hdst hsrc hend un hs active => ?_, fun line f s hj hend un hs kind barred => ?_⟩
  · intro i set x isOpen record follows
    obtain ⟨u, heard, hexec⟩ := exec_validFrameEnd_data hj body hdst hsrc hend un hs active
    have recorded : u.receivePair f.src i = record := by
      rw [heard.receivePair, recordHeard_data body hsrc]
    have opened : u.dataOpen f.src i = true ↔ isOpen := by
      rw [dataOpen_iff, heard.inboxSetting]
    have box : u.inbox i = x := heard.inbox i
    refine ⟨_, hexec, ?_⟩
    intro refusedAs
    have refused {code : ReplyCode} (notFull : code ≠ .full)
        (decided : u.decideData f.src i seq payload.length = .refuse code) :
        refusedAs code.toOctet ∧ (u.dataArrives f.src i seq payload).inbox i = x := by
      change (_ ∧ _ ∧ _ ∧ _) ∧ _
      rw [dataArrives_refuse notFull decided]
      refine ⟨⟨heard.memory, recorded, fun j _ => heard.inbox j, ?_⟩, box⟩
      rw [compose_reply, inboxReply_eq_replyTo, recorded, box, heard.replyTo]
    refine ⟨fun closed => ?_, fun isOpen' last => ?_, fun isOpen' strays fresh => ?_, fun isOpen' next none => ?_,
      fun isOpen' next room short => ?_⟩
    · exact refused (code := .closed) (by decide) (decideData_closed (mt opened.mp closed))
    · exact refused (code := .duplicate) (by decide) (decideData_duplicate (opened.mpr isOpen') (recorded.trans last))
    · exact refused (code := .outOfStep) (by decide) (decideData_outOfStep (opened.mpr isOpen') (by rw [recorded]; exact strays)
        (by rw [recorded]; exact fresh))
    · have decided : u.decideData f.src i seq payload.length = .refuse .full := by
        rw [decideData_follows (opened.mpr isOpen') (by rw [recorded]; exact next),
          decideRoom_noRoom (by rw [box]; exact none)]
      change (_ ∧ _ ∧ _ ∧ _) ∧ _
      rw [dataArrives_full decided]
      have waiting : (u.addWaiter f.src i).inbox i = { x with waiters := x.waiters ||| BitVec.twoPow 32 f.src.val } := by
        rw [State.addWaiter, setInbox_inbox, if_pos rfl, box]
        rfl
      refine ⟨⟨heard.memory, recorded, fun j hj => ?_, ?_⟩, waiting⟩
      · exact (setInbox_inbox ..).trans ((if_neg (Ne.symm hj)).trans (heard.inbox j))
      · rw [compose_reply, inboxReply_eq_replyTo, waiting]
        change some (u.replyTo f.src i _ ((u.receivePair f.src i).getD 0) (u.receivePair f.src i).isNone _) = _
        rw [recorded, heard.replyTo]
        rfl
    · obtain ⟨b, l, free, long⟩ := short
      refine refused (code := .tooLong) (by decide) ?_
      rw [decideData_follows (opened.mpr isOpen') (by rw [recorded]; exact next),
        decideRoom_head (by rw [box]; exact room) (by rw [box]; exact free), if_pos long]
  · by_cases hsrc : f.src = s.own
    · have only := atFrameEnd_only s line f
      have silent : s.reveals f = false := by
        unfold State.reveals
        rw [decide_eq_false (not_not.mpr hsrc), Bool.false_and]
      refine ⟨_, exec_validFrameEnd_namesake hj hsrc hend hs un, only.inboxes, only.words, only.memory, only.counters,
        ?_, fun p i => ?_⟩
      · rw [atFrameEnd_trunk s f line un.2.2]
      · rw [State.recordHeard, if_neg (fun e => by rw [silent] at e; exact nomatch e.1)]
        simp only [State.receivePair, only.peer]
    · obtain ⟨u, heard, hexec⟩ := exec_validFrameEnd_decided hj hsrc hend hs un
      have notCredit : ∀ offer, f.body ≠ .credit offer := by
        rcases kind with ⟨seq, payload, body⟩ | body | ⟨w, v, body⟩ <;> rw [body] <;> exact fun _ => nofun
      have undecided : u.arrival f (decide (s.claim.state = .active)) = u := by
        refine arrival_undecided f _ kind ?_
        rw [heard.own]
        exact barred.imp decide_eq_false id
      rw [undecided, creditHeard_of_not_credit notCredit] at hexec
      exact ⟨u, hexec, heard.inboxes, heard.words, heard.memory, heard.counters, heard.reply, heard.receivePair⟩

/-! ### Acceptance -/

/-- R114, R131: the inbox after an acceptance into its head buffer. -/
theorem accept_eq (x : Inbox) (a : Arrival) {b : Buffer} {rest : List Buffer} (free : x.free = b :: rest) :
    x.accept a = { x with
      free := rest, arrivals := x.arrivals ++ [a],
      announce := x.announce && decide (rest ≠ [] ∧ x.arrivals.length < 63) } := by
  have room : ({ x with free := rest, arrivals := x.arrivals ++ [a] } : Inbox).offered ≠ 0 ↔
      rest ≠ [] ∧ x.arrivals.length < 63 := by
    rw [offered_ne_zero, List.length_append, List.length_singleton]
    exact and_congr Iff.rfl (by omega)
  unfold Inbox.accept Inbox.withdraw
  rw [free]
  change (if ({ x with free := rest, arrivals := x.arrivals ++ [a] } : Inbox).offered = 0 then _ else _) = _
  split
  · next none => rw [decide_eq_false (mt room.mpr (not_not.mpr none)), Bool.and_false]; rfl
  · next some' => rw [decide_eq_true (room.mp some'), Bool.and_true]; rfl

/-- R108: the offered count after an acceptance. -/
theorem accept_offer (x : Inbox) (a : Arrival) {b : Buffer} {rest : List Buffer} (free : x.free = b :: rest) :
    (x.accept a).offer = Fin.ofNat 64 (min (min rest.length (63 - x.arrivals.length)) 63) := by
  rw [accept_eq x a free]
  unfold Inbox.offer Inbox.offered
  rw [List.length_append, List.length_singleton]
  exact congrArg (fun n => Fin.ofNat 64 (min (min rest.length n) 63)) (by unfold arrivalLimit; omega)

/-- Settles O36. -/
theorem acceptedDataIsStoredWhole : Obligations.AcceptedDataIsStoredWhole := by
  unfold Obligations.AcceptedDataIsStoredWhole
  intro line f seq payload b rest s hj body hdst hsrc hend un hs active form inside enabled admitted last free few fits
  obtain ⟨u, heard, hexec⟩ := exec_validFrameEnd_data hj body hdst hsrc hend un hs active
  have decided : u.decideData f.src f.ch seq payload.length = .accept b := by
    have follows : u.receivePair f.src f.ch = none ∨ ∃ l, u.receivePair f.src f.ch = some l ∧ seq = l + 1 := by
      rw [heard.receivePair, recordHeard_data body hsrc]
      split
      · exact .inl rfl
      · exact last.imp id fun last => ⟨seq - 1, last, (sub_add_cancel seq 1).symm⟩
    rw [decideData_follows ((dataOpen_iff ..).mpr (by rw [heard.inboxSetting]; exact ⟨enabled, admitted⟩)) follows,
      decideRoom_head (b := b) (rest := rest), if_neg (Nat.not_lt.mpr fits)]
    · rw [heard.inbox]
      exact offered_ne_zero.mpr ⟨by rw [free]; exact nofun, few⟩
    · rw [heard.inbox, free]
  rw [dataArrives_accept decided] at hexec
  have box : (u.inbox f.ch).accept { source := f.src, kind := .data, length := payload.length, buffer := b, seq := some seq } =
      { s.inbox f.ch with
        free := rest,
        arrivals := (s.inbox f.ch).arrivals ++
          [{ source := f.src, kind := .data, length := payload.length, buffer := b, seq := some seq }],
        announce := (s.inbox f.ch).announce && decide (rest ≠ [] ∧ (s.inbox f.ch).arrivals.length < 63) } := by
    rw [heard.inbox]
    exact accept_eq _ _ free
  have accepted : ((u.acceptInto f.ch b f.src .data payload (some seq)).setReceivePair f.src f.ch (some seq)).inbox f.ch =
      (s.inbox f.ch).accept
        { source := f.src, kind := .data, length := payload.length, buffer := b, seq := some seq } := by
    rw [← heard.inbox]
    exact (setInbox_inbox ..).trans (if_pos rfl)
  have remembered : ((u.acceptInto f.ch b f.src .data payload (some seq)).setReceivePair f.src f.ch
      (some seq)).receivePair f.src f.ch = some seq := by
    rw [setReceivePair_receivePair, if_pos ⟨rfl, rfl⟩]
  rw [heard.inbox] at box
  refine ⟨_, hexec, fun a => ?_, ?_, ?_, ?_, ?_, ?_, fun j hj => ?_, remembered, ?_, heard.words, heard.store, heard.log,
    heard.counters⟩
  · have whole : b.address.val + payload.length ≤ memorySize := by
      obtain ⟨-, -, room⟩ := inside
      unfold memorySize
      omega
    change (u.memory.writeOctets b.address.val payload).read a = _
    rw [heard.memory, read_writeOctets form whole]
  · exact (congrArg Inbox.free (accepted.trans box))
  · exact (congrArg Inbox.arrivals (accepted.trans box))
  · have all := congrArg Inbox.waiters (accepted.trans box)
    exact all
  · have all := congrArg Inbox.drops (accepted.trans box)
    exact all
  · exact (congrArg Inbox.announce (accepted.trans box))
  · exact (setInbox_inbox ..).trans ((if_neg (Ne.symm hj)).trans (heard.inbox j))
  · rw [compose_reply, inboxReply_eq_replyTo, remembered, accepted, accept_offer _ _ free]
    exact congrArg some (heard.replyTo ..)

/-! ### At most once -/

theorem dataArrives_unseen (s : State) (p : Station) (i : InboxIx) (seq : Seq) (payload : List Octet) :
    (s.dataArrives p i seq payload).trunk.unseenStart = s.trunk.unseenStart := by
  unfold State.dataArrives
  split <;> rfl

/-- Settles O37: the source has been heard with its epoch, so the second end reveals no restart, and the record names
the SEQ. -/
theorem repeatedDataIsStoredOnce : Obligations.RepeatedDataIsStoredOnce := by
  unfold Obligations.RepeatedDataIsStoredOnce
  intro line f seq payload s t u hj body hdst hsrc hend un hs active enabled admitted first last second
  obtain ⟨v, heard, hexec⟩ := exec_validFrameEnd_data hj body hdst hsrc hend un hs active
  have arrivedOnce := arrival_data (s := v) body (by rwa [heard.own]) (by rwa [heard.own])
  have station := arrival_station v f true
  have exchanges := arrival_exchanges v f true
  have decided := arrival_decided v f true
  rw [arrivedOnce] at station exchanges decided
  have unseen := (dataArrives_unseen v f.src f.ch seq payload).trans heard.idle.2
  cases first.symm.trans hexec
  generalize v.dataArrives f.src f.ch seq payload = t at station exchanges decided unseen last second
  have own : t.own = s.own := station.own.trans heard.own
  have settings : t.settings = s.settings := station.settings.trans heard.settings
  obtain ⟨w, again, hagain⟩ := exec_validFrameEnd_data (s := t) hj body (by rwa [own]) (by rwa [own])
    ⟨by rw [station.line, heard.idle.1]; exact nofun, unseen⟩
    ⟨by rw [exchanges.2, heard.exchanges.2]; exact un.1, by rw [exchanges.1, heard.exchanges.1]; exact un.2.1,
      by rw [station.claim]; exact heard.leave⟩
    (by rw [settings]; exact hs) (by rw [station.claim]; exact heard.active active)
  have known : ¬ ∃ old, (t.peer f.src).epoch = some old ∧ old ≠ f.epoch := by
    rw [decided.source]
    change ¬ ∃ old, (v.peer f.src).epoch = some old ∧ old ≠ f.epoch
    rw [heard.source.2.1]
    rintro ⟨old, e, differs⟩
    exact differs (Option.some.inj e).symm
  have recorded : w.receivePair f.src f.ch = some seq := by
    rw [again.receivePair, recordHeard_data body (by rwa [own]), if_neg known, last]
  have setting : t.inboxSetting f.ch = s.inboxSetting f.ch := by
    simp only [State.inboxSetting, settings]
  have isOpen : w.dataOpen f.src f.ch = true := by
    rw [dataOpen_iff, again.inboxSetting, setting]
    exact ⟨enabled, admitted⟩
  cases second.symm.trans hagain
  rw [dataArrives_refuse (code := .duplicate) (by decide) (decideData_duplicate isOpen recorded)]
  refine ⟨again.inboxes, again.memory, recorded, ?_⟩
  have same (code last : Octet) (l : Seq) (fresh : Bool) (offer : Offer) :
      t.replyTo f.src f.ch code l fresh offer = s.replyTo f.src f.ch code l fresh offer := by
    simp only [State.replyTo, State.epoch, own, settings]
  rw [compose_reply, inboxReply_eq_replyTo, recorded, again.inbox, again.replyTo, same _ 0]
  rfl

/-! ### BCAST -/

/-- Settles O39. -/
theorem broadcastsAreAcceptedOrCounted : Obligations.BroadcastsAreAcceptedOrCounted := by
  unfold Obligations.BroadcastsAreAcceptedOrCounted
  refine ⟨fun line f payload s hj body hsrc hend un hs form => ?_, fun line f payload s hj body hsrc hend un hs => ?_⟩
  · intro i set x admitted silently
    obtain ⟨u, heard, hexec⟩ := exec_validFrameEnd_decided hj hsrc hend hs un
    rw [arrival_bcast body (by rwa [heard.own]),
      creditHeard_of_not_credit (by rw [body]; exact fun _ => nofun)] at hexec
    have box : u.inbox i = x := heard.inbox i
    refine ⟨fun b rest admission free inside fits => ?_, fun dropped => ?_⟩
    · obtain ⟨active, enabled, broadcast, source, few⟩ := admission
      have decided : u.bcastBuffer f.src i payload.length = some b := by
        have isOpen : (u.dataOpen f.src i && (u.inboxSetting i).broadcast) = true := by
          rw [Bool.and_eq_true, dataOpen_iff, heard.inboxSetting]
          exact ⟨⟨enabled, source⟩, broadcast⟩
        have room : u.decideRoom i payload.length = .accept b := by
          rw [decideRoom_head (b := b) (rest := rest), if_neg (Nat.not_lt.mpr fits)]
          · rw [box]; exact offered_ne_zero.mpr ⟨by rw [free]; exact nofun, few⟩
          · rw [box]; exact free
        unfold State.bcastBuffer
        rw [if_pos isOpen, room]
      have accepted : u.bcastArrives f.src i payload true = u.acceptInto i b f.src .bcast payload none := by
        unfold State.bcastArrives
        rw [if_pos rfl, decided]
      rw [decide_eq_true active, accepted] at hexec
      have stored : (u.acceptInto i b f.src .bcast payload none).inbox i = { x with
          free := rest,
          arrivals := x.arrivals ++
            [{ source := f.src, kind := .bcast, length := payload.length, buffer := b, seq := none }],
          announce := x.announce && decide (rest ≠ [] ∧ x.arrivals.length < 63) } := by
        rw [← accept_eq x _ free, ← box]
        exact (setInbox_inbox ..).trans (if_pos rfl)
      have waiting := congrArg Inbox.waiters stored
      have drops := congrArg Inbox.drops stored
      refine ⟨_, hexec, ⟨heard.reply, heard.receivePair, waiting, fun j hj => ?_⟩,
        congrArg Inbox.free stored, congrArg Inbox.arrivals stored, drops, heard.counters,
        fun a => ?_⟩
      · exact (setInbox_inbox ..).trans ((if_neg (Ne.symm hj)).trans (heard.inbox j))
      · have whole : b.address.val + payload.length ≤ memorySize := by
          obtain ⟨-, -, room⟩ := inside
          unfold memorySize
          omega
        change (u.memory.writeOctets b.address.val payload).read a = _
        rw [heard.memory, read_writeOctets form whole]
    · have refused : (if decide (s.claim.state = .active) = true then u.bcastBuffer f.src i payload.length
          else none) = none := by
        cases h : (if decide (s.claim.state = .active) = true then u.bcastBuffer f.src i payload.length else none) with
        | none => rfl
        | some b =>
          exfalso
          split at h
          · next active =>
            have accepted := decideRoom_accept (bcastBuffer_some h)
            obtain ⟨room, ⟨rest, free⟩, fits⟩ := accepted
            rw [box] at room free
            rcases dropped with barred | empty | ⟨b', rest', free', long⟩
            · refine barred ⟨of_decide_eq_true active, ?_⟩
              have few := (offered_ne_zero.mp room).2
              unfold State.bcastBuffer at h
              split at h
              · next isOpen =>
                rw [Bool.and_eq_true, dataOpen_iff, heard.inboxSetting] at isOpen
                exact ⟨isOpen.1.1, isOpen.2, isOpen.1.2, few⟩
              · cases h
            · rw [empty] at free; cases free
            · rw [free'] at free
              obtain ⟨rfl, -⟩ := List.cons.inj free
              omega
          · cases h
      have drop : u.bcastArrives f.src i payload (decide (s.claim.state = .active)) = u.dropBcast i := by
        unfold State.bcastArrives
        rw [refused]
      rw [drop] at hexec
      have only := dropBcast_drops u i
      have counted : u.dropBcast i = ((u.setInbox i { u.inbox i with
          drops := satAdd counterLimit (u.inbox i).drops 1 }).setCounters
            { u.counters with drops := min 65535 (u.counters.drops + 1) }) :=
        countDrop_eq (s := u.setInbox i _) (by rw [setInbox_settings, heard.settings]; exact hs)
      have dropBox : (u.dropBcast i).inbox i = { x with drops := min 65535 (x.drops + 1) } := by
        rw [counted]
        exact ((setInbox_inbox ..).trans (if_pos rfl)).trans (by rw [box]; rfl)
      refine ⟨_, hexec, ⟨?_, fun p j => ?_, ?_, fun j hj => ?_⟩, dropBox, ?_, ?_⟩
      · rw [only.trunk]; exact heard.reply
      · rw [← heard.receivePair]
        simp only [State.receivePair, State.peer, only.peers]
      · rw [dropBox]
      · rw [counted]
        exact (setInbox_inbox ..).trans ((if_neg (Ne.symm hj)).trans (heard.inbox j))
      · rw [counted, setCounters_counters, heard.counters]
      · rw [only.memory]; exact heard.memory
  · have only := atFrameEnd_only s line f
    exact ⟨_, exec_validFrameEnd_namesake hj hsrc hend hs un, only.inboxes, only.counters, only.memory, only.peers,
      by rw [atFrameEnd_trunk s f line un.2.2]⟩

end

end Sys2Proof.Machine
end

section
/-!
PROOFS. The form of frames: the octets of each kind, the reading of an activity as a frame, and the ten-bit form on the
line (R1, R2, R5, R6, R12, Tables 1-1 to 1-4).
-/

namespace Sys2Proof.Machine

/-! ### Fields of octets -/

theorem octet_mod (n : Nat) : octet (n % 256) = octet n := BitVec.eq_of_toNat_eq (by simp [octet])

theorem octetsOf_two (n : Nat) : octetsOf 2 n = [octet n, octet (n / 256)] := rfl

theorem octetsOf_four (n : Nat) :
    octetsOf 4 n = [octet n, octet (n / 256), octet (n / 65536), octet (n / 16777216)] := by
  simp only [octetsOf, Nat.div_div_eq_div_mul]

/-- The low bits of an octet that holds two fields. -/
theorem bitsOf_low {low high width : Nat} (fits : low < 2 ^ width) (all : low + 2 ^ width * high < 256) :
    bitsOf (octet (low + 2 ^ width * high)) 0 width = low := by
  rw [bitsOf, octet_toNat all, pow_zero, Nat.div_one, Nat.add_mul_mod_self_left, Nat.mod_eq_of_lt fits]

/-- The high bits of an octet that holds two fields. -/
theorem bitsOf_high {low high start width : Nat} (fits : low < 2 ^ start) (high_fits : high < 2 ^ width)
    (all : low + 2 ^ start * high < 256) : bitsOf (octet (low + 2 ^ start * high)) start width = high := by
  rw [bitsOf, octet_toNat all, Nat.add_mul_div_left _ _ (Nat.two_pow_pos start), Nat.div_eq_of_lt fits, Nat.zero_add,
    Nat.mod_eq_of_lt high_fits]

theorem ofNat_bitsOf_low (o : Octet) (width : Nat) [NeZero (2 ^ width)] :
    Fin.ofNat (2 ^ width) (bitsOf o 0 width) = Fin.ofNat (2 ^ width) o.toNat :=
  Fin.ext (by simp [bitsOf, Fin.ofNat])

/-! ### The layout of a frame -/

theorem crcOctets_length (covered : List Octet) : (crcOctets covered).length = 2 := octetsOf_length ..

theorem crcOctets_eq (covered : List Octet) :
    crcOctets covered = [octet ((crc covered).toNat % 256), octet ((crc covered).toNat / 256)] := by
  rw [octet_mod]
  rfl

theorem lead_eq (f : Frame) : f.lead = syncOctet :: octet (f.body.kindCode * 16 + f.epoch.toNat) ::
    octet (f.src.val + 32 * f.ch.val) :: octet (destCode f.dst + 128 * bit f.body.freshStart) :: f.body.controls := rfl

theorem dataControls_eq (seq : Seq) (n : Nat) :
    dataControls seq n = [octet seq.val, octet (n % 256), octet (n / 256)] := by
  rw [octet_mod]
  rfl

theorem bcastControls_eq (n : Nat) : bcastControls n = [octet (n % 256), octet (n / 256)] := by
  rw [octet_mod]
  rfl

theorem noticeControls_eq (w : Fin 4) (v : BitVec 32) : (FrameBody.notice w v).controls =
    [octet w.val, octet (v.toNat % 256), octet (v.toNat / 256 % 256), octet (v.toNat / 65536 % 256),
      octet (v.toNat / 16777216)] := by
  simp only [octet_mod]
  exact congrArg _ (octetsOf_four _)

/-- Settles O20. -/
theorem crcCheckValueAndHeaderLayout : Obligations.CrcCheckValueAndHeaderLayout := by
  unfold Obligations.CrcCheckValueAndHeaderLayout
  have check : crc [0x31, 0x32, 0x33, 0x34, 0x35, 0x36, 0x37, 0x38, 0x39] = 0x29B1 := by decide +kernel
  refine ⟨check, by rw [crcOctets, check]; decide, ?_⟩
  intro f kind dst freshStart controls covered
  have whole : f.lead ++ f.body.payload = syncOctet :: covered := by
    have header : octet (f.body.kindCode * 16 + f.epoch.toNat) = octet (16 * kind + f.epoch.toNat) := by
      have code : f.body.kindCode = kind := by cases hb : f.body <;> simp only [kind, hb] <;> rfl
      rw [code, Nat.mul_comm]
    have source : octet (f.src.val + 32 * f.ch.val) = octet (32 * f.ch.val + f.src.val) := by rw [Nat.add_comm]
    have fresh : octet (destCode f.dst + 128 * bit f.body.freshStart) = octet (dst + freshStart) := by
      have code : destCode f.dst = dst := by cases hd : f.dst <;> simp only [dst, hd] <;> rfl
      have marked : 128 * bit f.body.freshStart = freshStart := by
        cases hb : f.body with
        | presence fresh => cases fresh <;> simp only [freshStart, hb] <;> rfl
        | _ => simp only [freshStart, hb]; rfl
      rw [code, marked]
    have carried : f.body.controls ++ f.body.payload = controls := by
      cases hb : f.body with
      | data seq p =>
        simp only [controls, hb]
        exact congrArg (· ++ p) (dataControls_eq seq p.length)
      | bcast p =>
        simp only [controls, hb]
        exact congrArg (· ++ p) (bcastControls_eq p.length)
      | notice w v =>
        simp only [controls, hb]
        exact (List.append_nil _).trans (noticeControls_eq w v)
      | reply code last fresh offer =>
        simp only [controls, hb]
        cases fresh <;> rfl
      | _ => simp only [controls, hb]; rfl
    rw [lead_eq, header, source, fresh]
    exact congrArg (fun l => syncOctet :: _ :: _ :: _ :: l) carried
  unfold encodeFrame
  rw [whole, ← crcOctets_eq]
  rfl

/-! ### Reading the control octets -/

/-- The number in octets `n` and `n + 1` of a run, low octet first. -/
def lengthAt (rest : List Octet) (n : Nat) : Nat := (rest.getD n 0).toNat + 256 * (rest.getD (n + 1) 0).toNat

/-- R12, items 2, 3, 5 and 6, for a kind: the destination code, LEN and the number of octets after the header, the CRC
among them. -/
def kindFits (kind dst : Nat) (rest : List Octet) : Prop :=
  match kind with
  | 1 => dst < 32 ∧ 1 ≤ lengthAt rest 1 ∧ lengthAt rest 1 ≤ 512 ∧ rest.length = 5 + lengthAt rest 1
  | 2 => dst = 63 ∧ 1 ≤ lengthAt rest 0 ∧ lengthAt rest 0 ≤ 512 ∧ rest.length = 4 + lengthAt rest 0
  | 3 => dst < 32 ∧ rest.length = 7
  | 4 => dst < 32 ∧ rest.length = 2
  | 5 => dst = 63 ∧ rest.length = 3
  | 6 => dst = 63 ∧ rest.length = 2
  | 8 => dst < 32 ∧ rest.length = 5
  | _ => False

/-- The fields that the octets after the header give, by kind. -/
def bodyGiven (kind : Nat) (freshStart : Bool) (rest : List Octet) : FrameBody :=
  match kind with
  | 1 => .data (Fin.ofNat 16 (rest.getD 0 0).toNat) ((rest.drop 3).take (lengthAt rest 1))
  | 2 => .bcast ((rest.drop 2).take (lengthAt rest 0))
  | 3 => .notice (Fin.ofNat 4 (rest.getD 0 0).toNat) (BitVec.ofNat 32 (lengthAt rest 1 + 65536 * lengthAt rest 3))
  | 4 => .step
  | 5 => .credit (Fin.ofNat 64 (rest.getD 0 0).toNat)
  | 6 => .presence freshStart
  | _ => .reply (octet (rest.getD 0 0).toNat) (Fin.ofNat 16 (rest.getD 1 0).toNat) ((rest.getD 1 0).toNat.testBit 4)
      (Fin.ofNat 64 (rest.getD 2 0).toNat)

/-- The destination that a code names. -/
def destGiven (code : Nat) : Option Station := if code = 63 then none else some (Fin.ofNat 32 code)

theorem destGiven_destCode (d : Option Station) : destGiven (destCode d) = d := by
  cases d with
  | none => rfl
  | some p =>
    have named : p.val ≠ 63 := by omega
    exact (if_neg named).trans (congrArg some (Fin.ext (Nat.mod_eq_of_lt p.isLt)))

theorem stationDest_map {α : Type} (code : Nat) (g : Option Station → α) :
    (stationDest code).map (fun p => g (some p)) = if code < 32 then some (g (destGiven code)) else none := by
  unfold stationDest
  split
  · next named =>
    rw [destGiven, if_neg (by omega)]
    exact congrArg (fun p => some (g (some p))) (Fin.ext (Nat.mod_eq_of_lt named).symm)
  · rfl

theorem lengthAt_octetsValue (l0 l1 : Octet) (tail : List Octet) :
    lengthAt (l0 :: l1 :: tail) 0 = octetsValue [l0, l1] := by simp [lengthAt, octetsValue]

/-- What `parseBody` comes to: the fields given, exactly where the conditions of R12 hold. -/
def readsBody (kind dst : Nat) (fresh : Bool) (rest : List Octet) : Prop :=
  (kindFits kind dst rest → parseBody kind dst fresh rest = some (destGiven dst, bodyGiven kind fresh rest)) ∧
  (¬ kindFits kind dst rest → parseBody kind dst fresh rest = none)

section
variable (dst : Nat) (fresh : Bool) (rest : List Octet)

/-- A kind to one station, whose octets are read whatever they hold. -/
theorem readsBody_directed {kind : Nat} (body : FrameBody)
    (parsed : parseBody kind dst fresh rest = (stationDest dst).map fun p => (some p, body))
    (fits : kindFits kind dst rest ↔ dst < 32) (given : bodyGiven kind fresh rest = body) :
    readsBody kind dst fresh rest := by
  have mapped := parsed.trans (stationDest_map dst fun d => (d, body))
  refine ⟨fun named => ?_, fun other => ?_⟩
  · rw [mapped, if_pos (fits.mp named), given]
  · rw [mapped, if_neg (mt fits.mpr other)]

/-- A kind to all stations. -/
theorem readsBody_broadcast {kind : Nat} (body : FrameBody)
    (parsed : parseBody kind dst fresh rest = if dst = allStations then some (none, body) else none)
    (fits : kindFits kind dst rest ↔ dst = 63) (given : bodyGiven kind fresh rest = body) :
    readsBody kind dst fresh rest := by
  refine ⟨fun all => ?_, fun other => ?_⟩
  · rw [given, destGiven, if_pos (fits.mp all)]
    exact parsed.trans (if_pos (fits.mp all))
  · exact parsed.trans (if_neg (mt fits.mpr other))

/-- A run of another length than the kind's. -/
theorem readsBody_none {kind : Nat} (parsed : parseBody kind dst fresh rest = none) (fits : ¬ kindFits kind dst rest) :
    readsBody kind dst fresh rest := ⟨fun h => absurd h fits, fun _ => parsed⟩

theorem readsBody_data : readsBody 1 dst fresh rest := by
  match rest with
  | [] => exact readsBody_none _ _ _ rfl fun ⟨_, _, _, h⟩ => absurd h (by simp [lengthAt])
  | [_] => exact readsBody_none _ _ _ rfl fun ⟨_, _, _, h⟩ => absurd h (by simp [lengthAt])
  | [_, _] => exact readsBody_none _ _ _ rfl fun ⟨_, _, _, h⟩ => absurd h (by simp [lengthAt]; omega)
  | c :: l0 :: l1 :: tail =>
    have len : lengthAt (c :: l0 :: l1 :: tail) 1 = octetsValue [l0, l1] := lengthAt_octetsValue l0 l1 tail
    have body : bodyGiven 1 fresh (c :: l0 :: l1 :: tail) =
        .data (Fin.ofNat 16 (bitsOf c 0 4)) (tail.take (octetsValue [l0, l1])) := by
      rw [← len]
      exact congrArg (FrameBody.data · _) (ofNat_bitsOf_low c 4).symm
    have whole : (c :: l0 :: l1 :: tail).length = 5 + lengthAt (c :: l0 :: l1 :: tail) 1 ↔
        tail.length = octetsValue [l0, l1] + 2 := by
      rw [len]
      simp only [List.length_cons]
      omega
    by_cases meets : 1 ≤ octetsValue [l0, l1] ∧ octetsValue [l0, l1] ≤ maxPayload ∧
        tail.length = octetsValue [l0, l1] + 2
    · refine readsBody_directed dst fresh _ _ (if_pos meets) ⟨fun fits => fits.1, fun named => ?_⟩ body
      obtain ⟨low, high, length⟩ := meets
      exact ⟨named, by rwa [len], by rwa [len], whole.mpr length⟩
    · refine readsBody_none dst fresh _ (if_neg meets) fun ⟨_, low, high, length⟩ => meets ?_
      rw [len] at low high
      exact ⟨low, high, whole.mp length⟩

theorem readsBody_bcast : readsBody 2 dst fresh rest := by
  match rest with
  | [] => exact readsBody_none _ _ _ rfl fun ⟨_, _, _, h⟩ => absurd h (by simp [lengthAt])
  | [_] => exact readsBody_none _ _ _ rfl fun ⟨_, _, _, h⟩ => absurd h (by simp [lengthAt]; omega)
  | l0 :: l1 :: tail =>
    have len := lengthAt_octetsValue l0 l1 tail
    have body : bodyGiven 2 fresh (l0 :: l1 :: tail) = .bcast (tail.take (octetsValue [l0, l1])) := by
      rw [← len]
      rfl
    have whole : (l0 :: l1 :: tail).length = 4 + lengthAt (l0 :: l1 :: tail) 0 ↔
        tail.length = octetsValue [l0, l1] + 2 := by
      rw [len]
      simp only [List.length_cons]
      omega
    have fits : kindFits 2 dst (l0 :: l1 :: tail) ↔ 1 ≤ octetsValue [l0, l1] ∧ octetsValue [l0, l1] ≤ maxPayload ∧
        tail.length = octetsValue [l0, l1] + 2 ∧ dst = allStations := by
      refine ⟨fun ⟨all, low, high, length⟩ => ?_, fun ⟨low, high, length, all⟩ => ?_⟩
      · rw [len] at low high
        exact ⟨low, high, whole.mp length, all⟩
      · exact ⟨all, by rwa [len], by rwa [len], whole.mpr length⟩
    refine ⟨fun meets => ?_, fun misses => if_neg (mt fits.mpr misses)⟩
    obtain ⟨-, -, -, all⟩ := fits.mp meets
    rw [body, destGiven, if_pos (show dst = 63 from all)]
    exact if_pos (fits.mp meets)

theorem readsBody_notice : readsBody 3 dst fresh rest := by
  match rest with
  | [w, v0, v1, v2, v3, _, _] =>
    refine readsBody_directed dst fresh _ _ rfl (and_iff_left rfl) ?_
    have value : lengthAt [v0, v1, v2, v3] 0 + 65536 * lengthAt [v0, v1, v2, v3] 2 =
        octetsValue [v0, v1, v2, v3] := by
      simp [lengthAt, octetsValue]
      omega
    rw [← value]
    exact congrArg (FrameBody.notice · _) (ofNat_bitsOf_low w 2).symm
  | [] | [_] | [_, _] | [_, _, _] | [_, _, _, _] | [_, _, _, _, _] | [_, _, _, _, _, _]
  | _ :: _ :: _ :: _ :: _ :: _ :: _ :: _ :: _ => exact readsBody_none _ _ _ rfl fun ⟨_, h⟩ => absurd h (by simp)

theorem readsBody_step : readsBody 4 dst fresh rest := by
  match rest with
  | [_, _] => exact readsBody_directed dst fresh _ _ rfl (and_iff_left rfl) rfl
  | [] | [_] | _ :: _ :: _ :: _ => exact readsBody_none _ _ _ rfl fun ⟨_, h⟩ => absurd h (by simp)

theorem readsBody_credit : readsBody 5 dst fresh rest := by
  match rest with
  | [o, _, _] =>
    exact readsBody_broadcast dst fresh _ _ rfl (and_iff_left rfl)
      (congrArg FrameBody.credit (ofNat_bitsOf_low o 6).symm)
  | [] | [_] | [_, _] | _ :: _ :: _ :: _ :: _ => exact readsBody_none _ _ _ rfl fun ⟨_, h⟩ => absurd h (by simp)

theorem readsBody_presence : readsBody 6 dst fresh rest := by
  match rest with
  | [_, _] => exact readsBody_broadcast dst fresh _ _ rfl (and_iff_left rfl) rfl
  | [] | [_] | _ :: _ :: _ :: _ => exact readsBody_none _ _ _ rfl fun ⟨_, h⟩ => absurd h (by simp)

theorem readsBody_reply : readsBody 8 dst fresh rest := by
  match rest with
  | [code, r, o, _, _] =>
    refine readsBody_directed dst fresh _ _ rfl (and_iff_left rfl) ?_
    have fields := congrArg₂ (FrameBody.reply (octet code.toNat) · (bitOf r 4) ·) (ofNat_bitsOf_low r 4).symm
      (ofNat_bitsOf_low o 6).symm
    exact fields.trans (by rw [octet_of_toNat]; rfl)
  | [] | [_] | [_, _] | [_, _, _] | [_, _, _, _] | _ :: _ :: _ :: _ :: _ :: _ :: _ =>
    exact readsBody_none _ _ _ rfl fun ⟨_, h⟩ => absurd h (by simp)

/-- Table 1-2: the kind codes. -/
def kindCodes : List Nat := [1, 2, 3, 4, 5, 6, 8]

theorem readsBody_kind {kind : Nat} (known : kind ∈ kindCodes) : readsBody kind dst fresh rest := by
  simp only [kindCodes, List.mem_cons, List.not_mem_nil, or_false] at known
  rcases known with rfl | rfl | rfl | rfl | rfl | rfl | rfl
  · exact readsBody_data dst fresh rest
  · exact readsBody_bcast dst fresh rest
  · exact readsBody_notice dst fresh rest
  · exact readsBody_step dst fresh rest
  · exact readsBody_credit dst fresh rest
  · exact readsBody_presence dst fresh rest
  · exact readsBody_reply dst fresh rest

/-- R12, item 2: a kind that no frame has. -/
theorem readsBody_unknown {kind : Nat} (unknown : kind ∉ kindCodes) : readsBody kind dst fresh rest := by
  simp only [kindCodes, List.mem_cons, List.not_mem_nil, or_false, not_or] at unknown
  obtain ⟨n1, n2, n3, n4, n5, n6, n8⟩ := unknown
  have parsed : parseBody kind dst fresh rest = none := by
    unfold parseBody
    split
    case h_8 => rfl
    all_goals contradiction
  refine readsBody_none dst fresh rest parsed fun fits => ?_
  unfold kindFits at fits
  split at fits
  case h_8 => exact fits
  all_goals contradiction

theorem readsBody_all (kind : Nat) : readsBody kind dst fresh rest := by
  by_cases known : kind ∈ kindCodes
  · exact readsBody_kind dst fresh rest known
  · exact readsBody_unknown dst fresh rest known

end

/-! ### Reading a frame -/

section
variable {sync o2 o3 o4 : Octet} {rest : List Octet}

/-- The frame that the header octets and those after them give. -/
def frameGiven (o2 o3 o4 : Octet) (rest : List Octet) : Frame :=
  { epoch := BitVec.ofNat 4 (bitsOf o2 0 4), src := Fin.ofNat 32 (bitsOf o3 0 5), ch := Fin.ofNat 8 (bitsOf o3 5 3),
    dst := destGiven (bitsOf o4 0 6), body := bodyGiven (bitsOf o2 4 4) (bitOf o4 7) rest }

/-- R12 for octets that hold a whole header. -/
def headerFits (sync o2 o3 o4 : Octet) (rest : List Octet) : Prop :=
  (sync = syncOctet ∧ bitOf o4 6 = false ∧ crcGood (sync :: o2 :: o3 :: o4 :: rest) = true) ∧
    kindFits (bitsOf o2 4 4) (bitsOf o4 0 6) rest

theorem parseFrame_fits (fits : headerFits sync o2 o3 o4 rest) :
    parseFrame (sync :: o2 :: o3 :: o4 :: rest) = some (frameGiven o2 o3 o4 rest) := by
  obtain ⟨header, kind⟩ := fits
  have read := (readsBody_all (bitsOf o4 0 6) (bitOf o4 7) rest (bitsOf o2 4 4)).1 kind
  refine (if_pos header).trans ?_
  rw [read]
  rfl

theorem parseFrame_misfits (misfits : ¬ headerFits sync o2 o3 o4 rest) :
    parseFrame (sync :: o2 :: o3 :: o4 :: rest) = none := by
  by_cases header : sync = syncOctet ∧ bitOf o4 6 = false ∧ crcGood (sync :: o2 :: o3 :: o4 :: rest) = true
  · have read := (readsBody_all (bitsOf o4 0 6) (bitOf o4 7) rest (bitsOf o2 4 4)).2 fun kind => misfits ⟨header, kind⟩
    refine (if_pos header).trans ?_
    rw [read]
    rfl
  · exact if_neg header

theorem parseFrame_short {octets : List Octet} (short : octets.length < 4) : parseFrame octets = none := by
  match octets with
  | [] | [_] | [_, _] | [_, _, _] => rfl
  | _ :: _ :: _ :: _ :: _ => simp at short; omega

end

/-! ### What is encoded is read back -/

theorem crcGood_append (body : List Octet) : crcGood (body ++ crcOctets (body.drop 1)) = true := by
  have length : (body ++ crcOctets (body.drop 1)).length - 2 = body.length := by
    rw [List.length_append, crcOctets_length, Nat.add_sub_cancel]
  unfold crcGood
  rw [length, List.take_left, List.drop_left]
  exact beq_self_eq_true _

theorem lengthAt_length {n : Nat} (h : n ≤ 512) (tail : List Octet) :
    lengthAt (octet (n % 256) :: octet (n / 256) :: tail) 0 = n := by
  change (octet (n % 256)).toNat + 256 * (octet (n / 256)).toNat = n
  rw [octet_toNat (by omega), octet_toNat (by omega)]
  omega

theorem kindCode_lt (b : FrameBody) : b.kindCode < 9 := by cases b <;> simp [FrameBody.kindCode]

theorem ofNat_octet {n : Nat} [NeZero n] (small : n ≤ 256) (i : Fin n) : Fin.ofNat n (octet i.val).toNat = i := by
  rw [octet_toNat (Nat.lt_of_lt_of_le i.isLt small)]
  exact Fin.ext (Nat.mod_eq_of_lt i.isLt)

/-- Table 1-3: octet 6 of a REPLY. -/
theorem replyOctet_fields (last : Seq) (fresh : Bool) :
    Fin.ofNat 16 (octet (last.val + 16 * bit fresh)).toNat = last ∧
      (octet (last.val + 16 * bit fresh)).toNat.testBit 4 = fresh := by
  revert last fresh; decide +kernel

/-- Table 1-1: octet 4. -/
theorem destOctet_fields {code : Nat} (fits : code < 64) (fresh : Bool) :
    bitOf (octet (code + 128 * bit fresh)) 6 = false ∧ bitOf (octet (code + 128 * bit fresh)) 7 = fresh ∧
      bitsOf (octet (code + 128 * bit fresh)) 0 6 = code := by
  have all : ∀ code : Fin 64, bitOf (octet (code.val + 128 * bit fresh)) 6 = false ∧
      bitOf (octet (code.val + 128 * bit fresh)) 7 = fresh ∧
      bitsOf (octet (code.val + 128 * bit fresh)) 0 6 = code.val := by
    revert fresh; decide +kernel
  exact all ⟨code, fits⟩

/-- The payload of a frame, as LEN and the octets that follow give it back. -/
theorem payload_kept {n : Nat} {p : List Octet} (a b : Octet) (whole : n = p.length) : (p ++ [a, b]).take n = p := by
  rw [whole, List.take_left]

/-- R12: the octets after the header of a frame that a station may compose. -/
theorem encoded_body {f : Frame} (legal : f.legal = true) (a b : Octet) :
    kindFits f.body.kindCode (destCode f.dst) (f.body.controls ++ f.body.payload ++ [a, b]) ∧
      bodyGiven f.body.kindCode f.body.freshStart (f.body.controls ++ f.body.payload ++ [a, b]) = f.body := by
  have directed (named : f.dst.isSome = true) : destCode f.dst < 32 := by
    obtain ⟨p, hp⟩ := Option.isSome_iff_exists.mp named
    rw [hp]
    exact p.isLt
  have broadcast (all : f.dst.isNone = true) : destCode f.dst = 63 := by
    rw [Option.isNone_iff_eq_none.mp all]
    rfl
  unfold Frame.legal at legal
  cases hb : f.body with
  | data seq p =>
    rw [hb, Bool.and_eq_true, decide_eq_true_eq] at legal
    obtain ⟨⟨low, high⟩, named⟩ := legal
    have octets : (FrameBody.data seq p).controls ++ (FrameBody.data seq p).payload ++ [a, b] =
        octet seq.val :: octet (p.length % 256) :: octet (p.length / 256) :: (p ++ [a, b]) := by
      rw [show (FrameBody.data seq p).controls = dataControls seq p.length from rfl, dataControls_eq]
      exact List.append_assoc ..
    have len : lengthAt (octet seq.val :: octet (p.length % 256) :: octet (p.length / 256) :: (p ++ [a, b])) 1 =
        p.length := lengthAt_length high (p ++ [a, b])
    rw [octets]
    refine ⟨⟨directed named, by rwa [len], by rwa [len], by rw [len]; simp; omega⟩, ?_⟩
    exact congrArg₂ FrameBody.data (ofNat_octet (by decide) seq) (payload_kept a b len)
  | bcast p =>
    rw [hb, Bool.and_eq_true, decide_eq_true_eq] at legal
    obtain ⟨⟨low, high⟩, all⟩ := legal
    have octets : (FrameBody.bcast p).controls ++ (FrameBody.bcast p).payload ++ [a, b] =
        octet (p.length % 256) :: octet (p.length / 256) :: (p ++ [a, b]) := by
      rw [show (FrameBody.bcast p).controls = bcastControls p.length from rfl, bcastControls_eq]
      exact List.append_assoc ..
    have len := lengthAt_length high (p ++ [a, b])
    rw [octets]
    refine ⟨⟨broadcast all, by rwa [len], by rwa [len], by rw [len]; simp; omega⟩, ?_⟩
    exact congrArg FrameBody.bcast (payload_kept a b len)
  | notice w v =>
    rw [hb] at legal
    have value : octetsValue (octetsOf 4 v.toNat) = v.toNat := by
      rw [octetsValue_octetsOf]
      exact Nat.mod_eq_of_lt v.isLt
    refine ⟨⟨directed legal, rfl⟩, congrArg₂ FrameBody.notice (ofNat_octet (by decide) w) ?_⟩
    refine (congrArg (BitVec.ofNat 32) (Eq.trans ?_ value)).trans (BitVec.ofNat_toNat ..)
    simp [lengthAt, octetsValue, octetsOf, FrameBody.controls]
    omega
  | step =>
    rw [hb] at legal
    exact ⟨⟨directed legal, rfl⟩, rfl⟩
  | credit offer =>
    rw [hb] at legal
    exact ⟨⟨broadcast legal, rfl⟩, congrArg FrameBody.credit (ofNat_octet (by decide) offer)⟩
  | presence fresh =>
    rw [hb] at legal
    exact ⟨⟨broadcast legal, rfl⟩, rfl⟩
  | reply code last fresh offer =>
    rw [hb] at legal
    obtain ⟨lastRead, freshRead⟩ := replyOctet_fields last fresh
    have read : bodyGiven 8 false ((FrameBody.reply code last fresh offer).controls ++ [] ++ [a, b]) =
        .reply (octet code.toNat) (Fin.ofNat 16 (octet (last.val + 16 * bit fresh)).toNat)
          ((octet (last.val + 16 * bit fresh)).toNat.testBit 4) (Fin.ofNat 64 (octet offer.val).toNat) := rfl
    rw [octet_of_toNat, lastRead, freshRead, ofNat_octet (by decide) offer] at read
    exact ⟨⟨directed legal, rfl⟩, read⟩

theorem encodeFrame_eq (f : Frame) : ∃ a b : Octet, encodeFrame f =
    syncOctet :: octet (f.body.kindCode * 16 + f.epoch.toNat) :: octet (f.src.val + 32 * f.ch.val) ::
      octet (destCode f.dst + 128 * bit f.body.freshStart) :: (f.body.controls ++ f.body.payload ++ [a, b]) :=
  ⟨_, _, congrArg (fun l => syncOctet :: _ :: _ :: _ :: (f.body.controls ++ f.body.payload ++ l)) (octetsOf_two _)⟩

theorem parseFrame_encodeFrame {f : Frame} (legal : f.legal = true) : parseFrame (encodeFrame f) = some f := by
  obtain ⟨a, b, octets⟩ := encodeFrame_eq f
  obtain ⟨fits, body⟩ := encoded_body legal a b
  have dest : destCode f.dst < 64 := by
    cases f.dst with
    | none => decide
    | some p => exact p.isLt.trans (by decide)
  obtain ⟨reserved, fresh, code⟩ := destOctet_fields dest f.body.freshStart
  have small := kindCode_lt f.body
  have epochLt : f.epoch.toNat < 2 ^ 4 := f.epoch.isLt
  have srcLt : f.src.val < 2 ^ 5 := f.src.isLt
  have chLt : f.ch.val < 2 ^ 3 := f.ch.isLt
  have second : f.body.kindCode * 16 + f.epoch.toNat = f.epoch.toNat + 2 ^ 4 * f.body.kindCode := by omega
  have kind : bitsOf (octet (f.body.kindCode * 16 + f.epoch.toNat)) 4 4 = f.body.kindCode := by
    rw [second, bitsOf_high epochLt (by omega) (by omega)]
  have epoch : bitsOf (octet (f.body.kindCode * 16 + f.epoch.toNat)) 0 4 = f.epoch.toNat := by
    rw [second, bitsOf_low epochLt (by omega)]
  have src : bitsOf (octet (f.src.val + 32 * f.ch.val)) 0 5 = f.src.val := bitsOf_low srcLt (by omega)
  have ch : bitsOf (octet (f.src.val + 32 * f.ch.val)) 5 3 = f.ch.val := bitsOf_high srcLt chLt (by omega)
  have good : crcGood (encodeFrame f) = true := crcGood_append (f.lead ++ f.body.payload)
  rw [octets] at good ⊢
  rw [parseFrame_fits ⟨⟨rfl, reserved, good⟩, by rw [kind, code]; exact fits⟩, frameGiven, kind, epoch, src, ch, code,
    fresh, body, destGiven_destCode, BitVec.ofNat_toNat]
  have srcRead : Fin.ofNat 32 f.src.val = f.src := Fin.ext (Nat.mod_eq_of_lt f.src.isLt)
  have chRead : Fin.ofNat 8 f.ch.val = f.ch := Fin.ext (Nat.mod_eq_of_lt f.ch.isLt)
  rw [srcRead, chRead]
  rfl

/-! ### The line -/

theorem lineCharacter_octet (o : Octet) : (lineCharacter o).extractLsb' 1 8 = o := by
  revert o; decide +kernel

theorem assemble_glitch {c : Character} (glitch : c.getLsbD 0 = true) (rest : List Character) :
    assemble (c :: rest) = assemble rest := if_pos glitch

theorem assemble_begins {c : Character} (begins : c.getLsbD 0 = false) (rest : List Character) : assemble (c :: rest) =
    if c.getLsbD 9 = true then { assemble rest with octets := c.extractLsb' 1 8 :: (assemble rest).octets }
    else { assemble rest with fault := true } := if_neg (by rw [begins]; exact nofun)

/-- R1: glitches change nothing. -/
theorem assemble_filter (line : List Character) : assemble (line.filter fun c => !c.getLsbD 0) = assemble line := by
  induction line with
  | nil => rfl
  | cons c rest ih =>
    cases start : c.getLsbD 0 with
    | true => rw [List.filter_cons_of_neg (by rw [start]; decide), assemble_glitch start, ih]
    | false => rw [List.filter_cons_of_pos (by rw [start]; decide), assemble_begins start, assemble_begins start, ih]

theorem assemble_lineCharacters (octets : List Octet) :
    assemble (octets.map lineCharacter) = { octets, fault := false } := by
  induction octets with
  | nil => rfl
  | cons o rest ih =>
    rw [List.map_cons, assemble_begins (lineCharacter_start o), if_pos (lineCharacter_stop o), ih, lineCharacter_octet]

/-- R1: a framing fault is recorded where a stop bit of an octet is sampled at SPACE. -/
theorem assemble_fault (line : List Character) : (assemble line).fault = false ↔
    ∀ c ∈ line, c.getLsbD 0 = false → c.getLsbD 9 = true := by
  induction line with
  | nil => exact ⟨fun _ _ h => absurd h List.not_mem_nil, fun _ => rfl⟩
  | cons c rest ih =>
    rw [List.forall_mem_cons]
    cases start : c.getLsbD 0 with
    | true => simpa [assemble_glitch start] using ih
    | false =>
      rw [assemble_begins start]
      cases stop : c.getLsbD 9 with
      | true => simpa using ih
      | false => simp

theorem judge_some_iff {line : List Character} {f : Frame} : judge line = some f ↔
    (assemble line).fault = false ∧ parseFrame (assemble line).octets = some f := by
  unfold judge
  cases (assemble line).fault <;> simp

/-- Settles O18. -/
theorem sentFramesAreReadBackWhole : Obligations.SentFramesAreReadBackWhole := by
  unfold Obligations.SentFramesAreReadBackWhole
  refine ⟨fun f legal => parseFrame_encodeFrame legal, fun f line legal sent => ?_⟩
  have gathered : assemble line = { octets := encodeFrame f, fault := false } := by
    rw [← assemble_filter, sent, assemble_lineCharacters]
  rw [judge_some_iff, gathered]
  exact ⟨rfl, parseFrame_encodeFrame legal⟩

/-! ### The conditions of R12, and the fields -/

section
variable {sync o2 o3 o4 : Octet} {rest : List Octet}

theorem parseFrame_isSome : (parseFrame (sync :: o2 :: o3 :: o4 :: rest)).isSome = true ↔
    headerFits sync o2 o3 o4 rest := by
  by_cases fits : headerFits sync o2 o3 o4 rest
  · simp [parseFrame_fits fits, fits]
  · simp [parseFrame_misfits fits, fits]

theorem parseFrame_some {f : Frame} (h : parseFrame (sync :: o2 :: o3 :: o4 :: rest) = some f) :
    f = frameGiven o2 o3 o4 rest := by
  have fits := parseFrame_isSome.mp (Option.isSome_of_eq_some h)
  exact Option.some.inj (h.symm.trans (parseFrame_fits fits))

end

/-- Table 1-2: the number of octets of a frame of a kind, LEN in octets 6 and 7 of a DATA and 5 and 6 of a BCAST. -/
def kindLength (kind dataLen bcastLen : Nat) : Nat :=
  match kind with
  | 1 => 9 + dataLen
  | 2 => 8 + bcastLen
  | 3 => 11
  | 5 => 7
  | 8 => 9
  | _ => 6

theorem kindLength_ge (kind dataLen bcastLen : Nat) : 4 ≤ kindLength kind dataLen bcastLen := by
  unfold kindLength
  split <;> omega

theorem kindFits_known {kind dst : Nat} (fits : kindFits kind dst rest) : kind ∈ kindCodes := by
  unfold kindFits at fits
  split at fits
  case h_8 => exact fits.elim
  all_goals decide

/-- R12, items 2, 3, 5 and 6, condition by condition. -/
theorem kindFits_iff (kind dst : Nat) (rest : List Octet) : kindFits kind dst rest ↔
    kind ∈ [1, 2, 3, 4, 5, 6, 8] ∧ (kind ∈ [1, 3, 4, 8] → dst < 32) ∧ (kind ∈ [2, 5, 6] → dst = 63) ∧
    (kind = 1 → 1 ≤ lengthAt rest 1 ∧ lengthAt rest 1 ≤ 512) ∧
    (kind = 2 → 1 ≤ lengthAt rest 0 ∧ lengthAt rest 0 ≤ 512) ∧
    rest.length + 4 = kindLength kind (lengthAt rest 1) (lengthAt rest 0) := by
  by_cases known : kind ∈ kindCodes
  · simp only [kindCodes, List.mem_cons, List.not_mem_nil, or_false] at known
    rcases known with rfl | rfl | rfl | rfl | rfl | rfl | rfl <;> simp [kindFits, kindLength] <;> omega
  · exact ⟨fun fits => absurd (kindFits_known fits) known, fun conditions => absurd conditions.1 known⟩

theorem exists_header {octets : List Octet} (long : 4 ≤ octets.length) :
    ∃ sync o2 o3 o4 rest, octets = sync :: o2 :: o3 :: o4 :: rest := by
  match octets with
  | sync :: o2 :: o3 :: o4 :: rest => exact ⟨sync, o2, o3, o4, rest, rfl⟩
  | [] | [_] | [_, _] | [_, _, _] => simp at long

/-- Settles O19. -/
theorem validFramesMeetEveryCondition : Obligations.ValidFramesMeetEveryCondition := by
  unfold Obligations.ValidFramesMeetEveryCondition
  intro line o oct kind code len
  have judged : (judge line).isSome = true ↔ (∀ c ∈ line, c.getLsbD 0 = false → c.getLsbD 9 = true) ∧
      (parseFrame o).isSome = true := by
    simp only [Option.isSome_iff_exists, judge_some_iff, assemble_fault]
    exact exists_and_left
  have parsed {f : Frame} (h : judge line = some f) : parseFrame o = some f := (judge_some_iff.mp h).2
  rw [judged]
  by_cases short : o.length < 4
  · rw [parseFrame_short short] at parsed ⊢
    refine ⟨⟨fun h => (nomatch h.2), fun h => absurd short (Nat.not_lt.mpr ?_)⟩, fun f h => nomatch parsed h⟩
    obtain ⟨-, -, -, -, -, -, -, -, length, -⟩ := h
    exact (kindLength_ge kind (len 6) (len 5)).trans (le_of_eq length.symm)
  · obtain ⟨sync, o2, o3, o4, rest, octets⟩ := exists_header (Nat.not_lt.mp short)
    clear_value o
    subst octets
    have hkind : bitsOf o2 4 4 = kind := by
      have small := o2.isLt
      change o2.toNat / 2 ^ 4 % 2 ^ 4 = o2.toNat / 16
      omega
    have hcode : bitsOf o4 0 6 = code := by
      change o4.toNat / 2 ^ 0 % 2 ^ 6 = o4.toNat % 64
      rw [pow_zero, Nat.div_one]
      rfl
    have fits := parseFrame_isSome (sync := sync) (o2 := o2) (o3 := o3) (o4 := o4) (rest := rest)
    unfold headerFits at fits
    rw [hkind, hcode, kindFits_iff] at fits
    refine ⟨⟨fun ⟨faultless, valid⟩ => ?_, fun h => ?_⟩, fun f h => ?_⟩
    · obtain ⟨⟨start, reserved, good⟩, known, one, all, data, bcast, length⟩ := fits.mp valid
      exact ⟨faultless, congrArg BitVec.toNat start, known, one, all, reserved, data, bcast, length, eq_of_beq good⟩
    · obtain ⟨faultless, start, known, one, all, reserved, data, bcast, length, good⟩ := h
      exact ⟨faultless, fits.mpr ⟨⟨BitVec.eq_of_toNat_eq start, reserved, beq_iff_eq.mpr good⟩, known, one, all, data,
        bcast, length⟩⟩
    · have given := parseFrame_some (parsed h)
      have body : f.body = bodyGiven kind (bitOf o4 7) rest := by rw [given, ← hkind]; rfl
      have dst : f.dst = destGiven code := by rw [given, ← hcode]; rfl
      refine ⟨?_, ?_, ?_, dst, body⟩
      · rw [given]
        exact (BitVec.toNat_ofNat ..).trans (by simp [bitsOf, oct])
      · rw [given]
        exact (Fin.val_ofNat ..).trans (by simp [bitsOf, oct])
      · have small := o3.isLt
        rw [given]
        refine (Fin.val_ofNat ..).trans ?_
        change o3.toNat / 2 ^ 5 % 2 ^ 3 % 8 = o3.toNat / 32
        omega

end Sys2Proof.Machine
end

section
/-!
PROOFS. The transmission of a frame octet by octet, and the local grant: what the own slot begins (R15, R16, R22 to R28,
R69, R82, R83, R132; log entries 5, 19, 23).
-/

namespace Sys2Proof.Machine

/-! ### The octets of a transmission -/

section
variable (t : Transmission) (m : Memory)

/-- Every octet before the CRC: those fixed at the grant, and the payload as packet memory holds it. -/
def Transmission.whole : List Octet := t.lead ++ m.readOctets t.address t.length

theorem whole_length : (t.whole m).length = t.bodyLength := by
  rw [Transmission.whole, List.length_append, readOctets_length]
  rfl

variable {t m}

theorem nextOctet_body (h : t.sent.length < t.bodyLength) : t.nextOctet m = (t.whole m).getD t.sent.length 0 := by
  unfold Transmission.nextOctet Transmission.whole
  dsimp only
  split
  · next lead => rw [List.getD_append _ _ _ _ lead]
  · next payload =>
    have start := Nat.le_of_not_lt payload
    have within : t.sent.length - t.lead.length < t.length := by
      unfold Transmission.bodyLength at h
      omega
    rw [List.getD_append_right _ _ _ _ start, readOctets_getD m t.address within]

theorem nextOctet_crc (h : t.bodyLength ≤ t.sent.length) : t.nextOctet m =
    (crcOctets ((t.sent.take t.bodyLength).drop 1)).getD (t.sent.length - t.bodyLength) 0 := by
  have lead : ¬ t.sent.length < t.lead.length := by
    unfold Transmission.bodyLength at h
    omega
  exact (if_neg lead).trans (if_neg (Nat.not_lt.mpr h))

theorem sendOctets_add (m : Memory) (a b : Nat) (t : Transmission) :
    t.sendOctets m (a + b) = (t.sendOctets m a).sendOctets m b := by
  induction a generalizing t with
  | zero => rw [Nat.zero_add]; rfl
  | succ a ih =>
    rw [Nat.succ_add]
    exact ih (t.sendOctet m)

/-- R15: the octets before the CRC follow those already sent. -/
theorem sendOctets_body {n : Nat} (fits : t.sent.length + n ≤ t.bodyLength) :
    t.sendOctets m n = { t with sent := t.sent ++ ((t.whole m).drop t.sent.length).take n } := by
  induction n generalizing t with
  | zero =>
    rw [List.take_zero, List.append_nil]
    rfl
  | succ n ih =>
    have sent : (t.sendOctet m).sent = t.sent ++ [(t.whole m).getD t.sent.length 0] := by
      rw [← nextOctet_body (by omega)]
      rfl
    have more : (t.sendOctet m).sent.length = t.sent.length + 1 := by rw [sent, List.length_append]; rfl
    have within : t.sent.length < (t.whole m).length := by rw [whole_length]; omega
    have head : (t.whole m).drop t.sent.length =
        (t.whole m).getD t.sent.length 0 :: (t.whole m).drop (t.sent.length + 1) := by
      rw [List.drop_eq_getElem_cons within, List.getD_eq_getElem _ _ within]
    have step := ih (t := t.sendOctet m) (by rw [more]; exact (by omega : t.sent.length + 1 + n ≤ t.bodyLength))
    refine step.trans ?_
    rw [more, head, List.take_succ_cons]
    exact congrArg (fun l => { t with sent := l }) ((congrArg (· ++ _) sent).trans (List.append_assoc ..))

/-- R15, R6: the CRC of what was read follows the whole body. -/
theorem sendOctets_crc (body : t.sent.length = t.bodyLength) :
    t.sendOctets m 2 = { t with sent := t.sent ++ crcOctets (t.sent.drop 1) } := by
  have first : t.nextOctet m = (crcOctets (t.sent.drop 1)).getD 0 0 := by
    rw [nextOctet_crc (Nat.le_of_eq body.symm), ← body, List.take_length, Nat.sub_self]
  have second : (t.sendOctet m).nextOctet m = (crcOctets (t.sent.drop 1)).getD 1 0 := by
    have more : (t.sendOctet m).sent.length = t.bodyLength + 1 := by
      rw [← body]
      exact List.length_append ..
    rw [nextOctet_crc (t := t.sendOctet m) (by rw [more]; exact Nat.le_succ _), more]
    have taken : (t.sendOctet m).sent.take (t.sendOctet m).bodyLength = t.sent := by
      rw [show (t.sendOctet m).bodyLength = t.bodyLength from rfl, ← body]
      exact List.take_left ..
    rw [taken, show (t.sendOctet m).bodyLength = t.bodyLength from rfl, Nat.add_sub_cancel_left]
  have octets : crcOctets (t.sent.drop 1) =
      [(crcOctets (t.sent.drop 1)).getD 0 0, (crcOctets (t.sent.drop 1)).getD 1 0] := rfl
  have sent : t.sent ++ [t.nextOctet m] ++ [(t.sendOctet m).nextOctet m] = t.sent ++ crcOctets (t.sent.drop 1) := by
    rw [octets, first, second, List.append_assoc]
    rfl
  exact congrArg (fun l => { t with sent := l }) sent

/-- R15: the whole frame, once the transmission is complete. -/
theorem completed_eq (short : t.sent.length ≤ t.bodyLength) : t.completed m =
    { t with phase := .complete, bit := 0,
             sent := t.sent ++ (t.whole m).drop t.sent.length ++
               crcOctets ((t.sent ++ (t.whole m).drop t.sent.length).drop 1) } := by
  have rest : t.total - t.sent.length = (t.bodyLength - t.sent.length) + 2 := by
    unfold Transmission.total
    omega
  have all : ((t.whole m).drop t.sent.length).take (t.bodyLength - t.sent.length) = (t.whole m).drop t.sent.length :=
    List.take_of_length_le (by rw [List.length_drop, whole_length])
  have length : (t.sent ++ (t.whole m).drop t.sent.length).length = t.bodyLength := by
    rw [List.length_append, List.length_drop, whole_length]
    omega
  unfold Transmission.completed
  rw [rest, sendOctets_add, sendOctets_body (t := t) (n := t.bodyLength - t.sent.length) (by omega), all,
    sendOctets_crc (t := { t with sent := t.sent ++ (t.whole m).drop t.sent.length }) length]

end

/-- R15: TRANSMISSION_COMPLETE of a transmission whose octets are going out. -/
theorem exec_transmissionComplete {s : State} {t : Transmission} (line : s.trunk.line = .activeTx)
    (sending : s.trunk.transmission = some t) (driving : t.phase = .driving) : exec .transmissionComplete s =
    .next (s.setTrunk { s.trunk with transmission := some (t.completed s.memory) }) := by
  change execTransmissionComplete s = _
  simp only [execTransmissionComplete, line, sending, driving, if_true]

/-! ### Beginning a transmission -/

/-- The transmission of an item, none of its octets sent. -/
def Transmission.fresh (item : Item) (lead : List Octet) (address length : Nat) : Transmission :=
  { item, lead, address, length, sent := [], bit := 0, phase := .driving }

/-- The station with a transmission begun on an IDLE line. -/
def State.begun (s : State) (t : Transmission) : State :=
  { s with
    trunk := { s.trunk with line := .activeTx, received := [], receivedCount := 0, reply := none,
                            transmission := some t },
    claim := { s.claim with joinCount := none } }

theorem transmit_idle {s : State} (idle : s.trunk.line = .idle) (item : Item) (lead : List Octet) (a n : Nat) :
    s.transmit item lead a n = s.begun (.fresh item lead a n) := if_pos idle

/-- R6, R15: what a begun transmission has sent once it is complete. -/
theorem completes {s : State} {item : Item} {lead : List Octet} {a n : Nat} {f : Frame}
    (octets : lead ++ s.memory.readOctets a n = f.lead ++ f.body.payload) :
    ∃ (u : State) (tx : Transmission), exec .transmissionComplete (s.begun (.fresh item lead a n)) = .next u ∧
      u.trunk.transmission = some tx ∧ tx.item = item ∧ tx.phase = .complete ∧ tx.sent = encodeFrame f := by
  refine ⟨_, _, exec_transmissionComplete rfl rfl rfl, rfl, ?_⟩
  have done := completed_eq (t := .fresh item lead a n) (m := s.memory) (Nat.zero_le _)
  have whole : (Transmission.fresh item lead a n).whole s.memory = f.lead ++ f.body.payload := octets
  rw [show (s.begun (.fresh item lead a n)).memory = s.memory from rfl, done, whole]
  exact ⟨rfl, rfl, rfl⟩

/-! ### The grant -/

section
variable {s : State}

theorem exec_slotBegin (active : s.claim.state = .active) (idle : s.trunk.line = .idle) {g : Grant}
    (granted : s.arbitrate = some g) : exec (.slotBegin false) s = .next (s.grant g) := by
  have begins : s.slotBegins = s.grant g := by
    unfold State.slotBegins
    rw [if_pos ⟨active, idle⟩, granted]
  rw [← begins]
  rfl

theorem movePointer_trunk (s : State) (q : QueueIx) : (s.movePointer q).trunk = s.trunk := by
  unfold State.movePointer
  split <;> rfl

theorem movePointer_peers (s : State) (q : QueueIx) : (s.movePointer q).peers = s.peers := by
  unfold State.movePointer
  split <;> rfl

theorem movePointer_memory (s : State) (q : QueueIx) : (s.movePointer q).memory = s.memory := by
  unfold State.movePointer
  split <;> rfl

/-- The address and length of the payload that goes out from packet memory. -/
def Context.span (c : Context) : QueueFrame → Nat × Nat
  | .data | .bcast => (c.copy.address.val, c.copy.length.val)
  | .step | .notice => (0, 0)

/-- R25, R83: the grant of a queue. -/
theorem grant_queue {q : QueueIx} {c : Context} (idle : s.trunk.line = .idle) (running : s.queue q = .running c) :
    s.grant (.queue q) =
      ((s.movePointer q).setQueue q (.running (s.granted c (s.stepFrame c)))).begun
        (.fresh (.queue q (s.stepFrame c)) (s.queueLead c (s.stepFrame c)) (c.span (s.stepFrame c)).1
          (c.span (s.stepFrame c)).2) := by
  have still : ((s.movePointer q).setQueue q (.running (s.granted c (s.stepFrame c)))).trunk.line = .idle := by
    rw [setQueue_trunk, movePointer_trunk, idle]
  change s.grantQueue q = _
  unfold State.grantQueue
  rw [running]
  dsimp only
  cases h : s.stepFrame c <;> exact transmit_idle (by rw [h] at still; exact still) _ _ _ _

end

/-- R79: what a pair says of a context. -/
theorem pair_eq_some {c : Context} {p : Station} {i : InboxIx} :
    c.pair = some (p, i) ↔ c.copy.kind = .message ∧ c.station = some p ∧ c.copy.inbox = i := by
  unfold Context.pair Context.isMessage
  by_cases message : c.copy.kind = .message
  · rw [if_pos (beq_iff_eq.mpr message)]
    cases c.station <;> simp [message]
  · rw [if_neg (by simpa using message)]
    simp [message]

/-- A frame of this station. -/
def State.frameTo (s : State) (ch : InboxIx) (dst : Option Station) (body : FrameBody) : Frame :=
  { epoch := s.epoch, src := s.own, ch, dst, body }

section
variable {s : State} {c : Context} {p : Station} {i : InboxIx}

/-- The payload of a queue's frame, as packet memory holds it. -/
def State.payloadOf (s : State) (c : Context) : List Octet :=
  s.memory.readOctets c.copy.address.val c.copy.length.val

theorem payloadOf_length (s : State) (c : Context) : (s.payloadOf c).length = c.copy.length.val := readOctets_length ..

/-! The fixed octets and the payload of a queue's frame are those of the frame (Tables 1-1 to 1-3). -/

theorem queueLead_data (pair : c.pair = some (p, i)) : s.queueLead c .data ++ s.payloadOf c =
    (s.frameTo i (some p) (.data (s.sendPair p i).nextSeq (s.payloadOf c))).lead ++ s.payloadOf c := by
  obtain ⟨-, station, rfl⟩ := pair_eq_some.mp pair
  simp only [State.queueLead, pair, station]
  rw [← payloadOf_length s c]
  rfl

theorem queueLead_bcast : s.queueLead c .bcast ++ s.payloadOf c =
    (s.frameTo c.copy.inbox none (.bcast (s.payloadOf c))).lead ++ s.payloadOf c := by
  have lead : s.queueLead c .bcast =
      headerOctets 2 s.epoch s.own c.copy.inbox none false ++ bcastControls c.copy.length.val := rfl
  rw [lead, ← payloadOf_length s c]
  rfl

theorem queueLead_step (pair : c.pair = some (p, i)) : s.queueLead c .step ++ [] =
    (s.frameTo i (some p) .step).lead ++ [] := by
  obtain ⟨-, station, rfl⟩ := pair_eq_some.mp pair
  simp only [State.queueLead, station]
  exact congrArg (· ++ []) (List.append_nil _).symm

theorem queueLead_notice (station : c.station = some p) : s.queueLead c .notice ++ [] =
    (s.frameTo 0 (some p) (.notice c.copy.word c.copy.value)).lead ++ [] := by
  simp only [State.queueLead, station]
  rfl

theorem stepFrame_message (pair : c.pair = some (p, i)) :
    s.stepFrame c = if 3 ≤ (s.sendPair p i).blind then .step else .data := by
  have kind := (pair_eq_some.mp pair).1
  unfold State.stepFrame
  rw [kind]
  simp only [pair]
  rfl

theorem stepFrame_notice (kind : c.copy.kind = .notice) : s.stepFrame c = .notice := by
  unfold State.stepFrame
  rw [kind]

theorem stepFrame_broadcast (kind : c.copy.kind = .broadcast) : s.stepFrame c = .bcast := by
  unfold State.stepFrame
  rw [kind]

end

/-! ### What the trunk carries -/

/-- R15: with no command waiting, the transmission's bit time. -/
theorem step_transmission {s : State} {tx : Transmission} (idle : s.pending = [])
    (sending : s.trunk.transmission = some tx) :
    ∃ t : State, step s = .next t ∧ t.trunk.transmission = some (tx.tick s.memory) := by
  refine ⟨_, step_of_idle idle, ?_⟩
  change s.trunk.transmission.map (·.tick s.memory) = _
  rw [sending]
  rfl

/-- R1, R15, R16: what is driven in the bit times of a transmission. -/
theorem drive_start {t : Transmission} (driving : t.phase = .driving) (bit : t.bit = 0)
    (more : t.sent.length < t.total) : t.drive = .space := by
  simp only [Transmission.drive, driving, bit, more, if_true]

theorem drive_over {t : Transmission} (over' : t.phase ≠ .driving) : t.drive = .released := by
  unfold Transmission.drive
  cases h : t.phase with
  | driving => exact absurd h over'
  | _ => rfl

theorem drive_bit {t : Transmission} {o : Octet} (driving : t.phase = .driving) (last : t.sent.getLast? = some o)
    (begun : t.bit ≠ 0) : t.drive = .released ↔ (lineCharacter o).getLsbD t.bit = true := by
  rw [t.drive_driving driving begun, TrunkDrive.ofBit_released, List.getLastD_eq_getLast?, last, Option.getD_some]

theorem tick_bit {t : Transmission} {m : Memory} (driving : t.phase = .driving) (begun : t.bit ≠ 0) :
    t.tick m = { t with bit := (t.bit + 1) % 10 } := by
  unfold Transmission.tick
  rw [driving]
  have later : ¬ (t.bit = 0 ∧ t.sent.length < t.total) := fun h => begun h.1
  dsimp only
  rw [if_neg later, driving]

theorem tick_octet {t : Transmission} {m : Memory} (driving : t.phase = .driving) (bit : t.bit = 0)
    (more : t.sent.length < t.total) :
    t.tick m = { t with bit := 1, sent := t.sent ++ [t.nextOctet m] } := by
  unfold Transmission.tick
  rw [driving]
  dsimp only
  rw [if_pos ⟨bit, more⟩]
  have next : ((t.sendOctet m).bit + 1) % 10 = 1 := by
    rw [show (t.sendOctet m).bit = t.bit from rfl, bit]
  rw [next]
  exact congrArg (fun phase => { t with bit := 1, sent := t.sent ++ [t.nextOctet m], phase }) driving

/-- Settles O23. -/
theorem transmissionsBeginAndCarryTheirOctets : Obligations.TransmissionsBeginAndCarryTheirOctets := by
  unfold Obligations.TransmissionsBeginAndCarryTheirOctets
  refine ⟨fun s tx line sending => ⟨fun driving bit more => ?_, fun driving o last => ⟨fun n hn bit => ?_, fun bit => ?_,
      fun idle low high => ?_⟩, fun still => ?_⟩, fun s line => ?_, fun s tx line sending driving short => ?_,
    fun s active idle => ?_, fun s f active idle reply => ?_⟩
  · rw [State.drive_activeTx s line sending]
    exact drive_start driving bit more
  · rw [State.drive_activeTx s line sending, drive_bit driving last (by omega), bit, lineCharacter_data o ⟨n, hn⟩]
  · rw [State.drive_activeTx s line sending, drive_bit driving last (by omega), bit]
    exact lineCharacter_stop o
  · rw [← tick_bit (m := s.memory) driving (by omega)]
    exact step_transmission idle sending
  · rw [State.drive_activeTx s line sending]
    exact drive_over still
  · unfold State.drive
    split
    · next active _ => exact absurd active line
    · rfl
  · intro whole body
    refine ⟨?_, fun idle bit more => ?_⟩
    · rw [exec_transmissionComplete line sending driving, completed_eq short]
      rfl
    · have octet := nextOctet_body (t := tx) (m := s.memory) more
      obtain ⟨t, stepped, carried⟩ := step_transmission idle sending
      refine ⟨t, stepped, ?_⟩
      rw [carried, tick_octet driving bit (Nat.lt_add_right 2 more), octet]
      rfl
  · intro goesOut frame
    have transmits {g : Grant} {item : Item} (f : Frame) (granted : s.arbitrate = some g)
        (begins : s.grant g = s.transmitFrame item f) : goesOut f := by
      obtain ⟨u, tx, done, sent, -, phase, octets⟩ := completes (s := s) (item := item) (a := 0) (n := 0) (f := f)
        (List.append_nil _)
      rw [← transmit_idle idle] at done
      exact ⟨_, u, tx, exec_slotBegin active idle granted, by rw [begins]; exact done, sent, phase, octets⟩
    refine ⟨fun granted => transmits _ granted rfl, fun i granted => transmits _ granted rfl,
      fun granted => transmits _ granted rfl, fun q c granted running => ?_⟩
    have carries {g : QueueFrame} (f : Frame) (called : s.stepFrame c = g)
        (octets : s.queueLead c g ++ s.memory.readOctets (c.span g).1 (c.span g).2 = f.lead ++ f.body.payload) :
        goesOut f := by
      have memory : ((s.movePointer q).setQueue q (.running (s.granted c g))).memory = s.memory :=
        movePointer_memory s q
      rw [← memory] at octets
      obtain ⟨u, tx, done, sent, -, phase, carried⟩ := completes (item := .queue q g) octets
      refine ⟨_, u, tx, exec_slotBegin active idle granted, ?_, sent, phase, carried⟩
      rw [grant_queue idle running, called]
      exact done
    refine ⟨fun p i pair blind => ?_, fun p kind station => ?_, fun kind => ?_⟩
    · exact carries _ ((stepFrame_message pair).trans (if_pos blind)) (queueLead_step pair)
    · exact carries _ (stepFrame_notice kind) (queueLead_notice station)
    · exact carries _ (stepFrame_broadcast kind) queueLead_bcast
  · have begins : s.replyBegins = s.begun (.fresh .reply (f.lead ++ f.body.payload) 0 0) := by
      unfold State.replyBegins
      rw [reply]
      exact (if_pos ⟨active, idle⟩).trans (transmit_idle (s := s.discardReply) idle ..)
    exact congrArg Host.Outcome.next begins

/-- Settles O22. -/
theorem grantedDataCarriesTheNextSequence : Obligations.GrantedDataCarriesTheNextSequence := by
  unfold Obligations.GrantedDataCarriesTheNextSequence
  intro s q c p i active idle granted running pair blind long short
  have called : s.stepFrame c = .data := (stepFrame_message pair).trans (if_neg (by omega))
  have recorded : s.granted c .data = { c with seqSent := some (s.sendPair p i).nextSeq } := by
    simp only [State.granted, pair]
  have grant := grant_queue idle running
  rw [called, recorded] at grant
  have memory := movePointer_memory s q
  obtain ⟨u, tx, done, sent, item, phase, octets⟩ := completes
    (s := (s.movePointer q).setQueue q (.running { c with seqSent := some (s.sendPair p i).nextSeq }))
    (item := .queue q .data) (lead := s.queueLead c .data) (a := c.copy.address.val) (n := c.copy.length.val)
    (f := s.frameTo i (some p) (.data (s.sendPair p i).nextSeq (s.payloadOf c)))
    (by rw [setQueue_memory, memory]; exact queueLead_data pair)
  refine ⟨_, u, (s.sendPair p i).nextSeq, tx, exec_slotBegin active idle granted, by rw [grant]; exact done, ?_, ?_, ?_,
    sent, item, phase, octets⟩
  · unfold SendPair.nextSeq
    simp [Fin.val_add]
  · rw [grant]
    exact (setQueue_queue ..).trans (if_pos rfl)
  · rw [grant]
    exact movePointer_peers s q

/-! ### The rotation and the arbiter (R24, R25, R69) -/

theorem rotation_eq (pointer : QueueIx) : [pointer + 1, pointer + 2, pointer + 3, pointer] =
    (List.range 4).map fun k => pointer + 1 + Fin.ofNat 4 k := by
  revert pointer; decide

section
variable {s : State}

/-- R25: a queue of the class that is ready. -/
def State.readyIn (s : State) (urgent : Bool) (q : QueueIx) : Bool :=
  (s.queueSetting q).urgent == urgent && s.queueReady q

theorem readyIn_iff {urgent : Bool} {q : QueueIx} :
    s.readyIn urgent q = true ↔ (s.queueSetting q).urgent = urgent ∧ s.queueReady q = true := by
  rw [State.readyIn, Bool.and_eq_true, beq_iff_eq]

theorem nextReady_first {urgent : Bool} {pointer : QueueIx} {k : Nat} (small : k < 4)
    (ready : s.readyIn urgent (pointer + 1 + Fin.ofNat 4 k) = true)
    (first : ∀ j < k, ¬ s.readyIn urgent (pointer + 1 + Fin.ofNat 4 j) = true) :
    s.nextReady urgent pointer = some (pointer + 1 + Fin.ofNat 4 k) := by
  have found : (List.range 4).find? (s.readyIn urgent ∘ fun k => pointer + 1 + Fin.ofNat 4 k) = some k :=
    List.find?_range_eq_some.mpr ⟨ready, List.mem_range.mpr small, fun j hj => by simpa using first j hj⟩
  change [pointer + 1, pointer + 2, pointer + 3, pointer].find? (s.readyIn urgent) = _
  rw [rotation_eq, List.find?_map, found]
  rfl

theorem nextReady_none {urgent : Bool} (unready : ∀ q, ¬ s.readyIn urgent q = true) (pointer : QueueIx) :
    s.nextReady urgent pointer = none :=
  List.find?_eq_none.mpr fun q _ => unready q

theorem nextReady_ready {urgent : Bool} {pointer q : QueueIx} (next : s.nextReady urgent pointer = some q) :
    s.readyIn urgent q = true := List.find?_some next

/-- R24, item 2. -/
theorem pendingInbox_lowest {i : InboxIx} (announce : (s.inbox i).announce = true)
    (lowest : ∀ j < i, (s.inbox j).announce = false) : s.pendingInbox = some i := by
  unfold State.pendingInbox
  rw [List.find?_eq_some_iff_getElem]
  refine ⟨announce, i.val, by simp, by simp, fun j hj => ?_⟩
  simpa using lowest ⟨j, by omega⟩ hj

theorem pendingInbox_none (quiet : ∀ i, (s.inbox i).announce = false) : s.pendingInbox = none :=
  List.find?_eq_none.mpr fun i _ => by rw [quiet i]; exact nofun

/-! R24: the pending items in their order. -/

theorem arbitrate_freshStart (fresh : s.claim.freshStartPending = true) : s.arbitrate = some .freshStart := if_pos fresh

theorem arbitrate_credit {i : InboxIx} (fresh : s.claim.freshStartPending = false) (inbox : s.pendingInbox = some i) :
    s.arbitrate = some (.credit i) := by
  unfold State.arbitrate
  rw [fresh, inbox]
  rfl

theorem arbitrate_urgent {q : QueueIx} (fresh : s.claim.freshStartPending = false) (inbox : s.pendingInbox = none)
    (urgent : s.nextReady true s.claim.lastUrgent = some q) : s.arbitrate = some (.queue q) := by
  unfold State.arbitrate
  rw [fresh, inbox, urgent]
  rfl

theorem arbitrate_routine {q : QueueIx} (fresh : s.claim.freshStartPending = false) (inbox : s.pendingInbox = none)
    (urgent : s.nextReady true s.claim.lastUrgent = none) (routine : s.nextReady false s.claim.lastRoutine = some q) :
    s.arbitrate = some (.queue q) := by
  unfold State.arbitrate
  rw [fresh, inbox, urgent, routine]
  rfl

theorem arbitrate_presence (fresh : s.claim.freshStartPending = false) (inbox : s.pendingInbox = none)
    (urgent : s.nextReady true s.claim.lastUrgent = none) (routine : s.nextReady false s.claim.lastRoutine = none) :
    s.arbitrate = if s.peers.presenceDue then some .presence else none := by
  unfold State.arbitrate
  rw [fresh, inbox, urgent, routine]
  rfl

/-- R69: a queue that is granted is ready. -/
theorem arbitrate_queue_ready {q : QueueIx} (granted : s.arbitrate = some (.queue q)) :
    ∃ urgent, s.readyIn urgent q = true := by
  unfold State.arbitrate at granted
  split at granted
  · cases granted
  · split at granted
    · cases granted
    · split at granted
      · next next =>
        cases granted
        exact ⟨true, nextReady_ready next⟩
      · split at granted
        · next next =>
          cases granted
          exact ⟨false, nextReady_ready next⟩
        · split at granted <;> cases granted

/-- R69. -/
theorem queueReady_iff (s : State) (q : QueueIx) : s.queueReady q = true ↔ ∃ c, s.queue q = .running c ∧
    s.claim.state = .active ∧ ¬ s.onTrunk q ∧
    (c.copy.kind = .message → ∀ p : Station, c.station = some p →
      ((s.sendPair p c.copy.inbox).lock = none ∨ (s.sendPair p c.copy.inbox).lock = some q) ∧
      s.hint p c.copy.inbox ≠ some 0) := by
  unfold State.queueReady
  cases running : s.queue q with
  | running c =>
    have trunk : (s.claim.state == .active && !s.frameOnTrunk q) = true ↔ s.claim.state = .active ∧ ¬ s.onTrunk q := by
      rw [Bool.and_eq_true, beq_iff_eq, Bool.not_eq_true', ← Bool.not_eq_true, frameOnTrunk_iff]
    simp only [QueueState.running.injEq, exists_eq_left', Bool.and_eq_true, trunk, and_assoc]
    refine and_congr_right fun _ => and_congr_right fun _ => ?_
    cases pair : c.pair with
    | none =>
      refine iff_of_true rfl fun kind p station => ?_
      rw [pair_eq_some.mpr ⟨kind, station, rfl⟩] at pair
      cases pair
    | some target =>
      obtain ⟨p, i⟩ := target
      obtain ⟨kind, station, rfl⟩ := pair_eq_some.mp pair
      simp [kind, station]
  | _ => simp

end

/-- R25: the pointer of the granted queue's class moves. -/
theorem movePointer_claim (s : State) (q : QueueIx) : (s.movePointer q).claim =
    if (s.queueSetting q).urgent = true then { s.claim with lastUrgent := q }
    else { s.claim with lastRoutine := q } := by
  unfold State.movePointer
  split <;> rfl

/-- Settles O21. -/
theorem slotGrantsTheFirstPendingItem : Obligations.SlotGrantsTheFirstPendingItem := by
  unfold Obligations.SlotGrantsTheFirstPendingItem
  refine ⟨fun s active idle => ?_, queueReady_iff, fun s active idle => ?_⟩
  · refine ⟨s.slotBegins, rfl, ?_⟩
    intro begun noCredit ready next
    have granted {g : Grant} (arbitrated : s.arbitrate = some g) : s.slotBegins = s.grant g :=
      Host.Outcome.next.inj (exec_slotBegin active idle arbitrated)
    have one {g : Grant} {item : Item} {f : Frame} (arbitrated : s.arbitrate = some g)
        (begins : s.grant g = s.transmitFrame item f) : begun item := by
      change _ ∧ _
      rw [granted arbitrated, begins, State.transmitFrame, transmit_idle idle]
      exact ⟨rfl, rfl⟩
    have queued {q : QueueIx} {u : Bool} (arbitrated : s.arbitrate = some (.queue q)) (is : ready u q) :
        (∃ f, begun (.queue q f)) ∧ s.slotBegins.claim.lastUrgent = (if u then q else s.claim.lastUrgent) ∧
          s.slotBegins.claim.lastRoutine = (if u then s.claim.lastRoutine else q) := by
      obtain ⟨c, running, -⟩ := (queueReady_iff s q).mp is.2
      have grant := grant_queue idle running
      rw [← granted arbitrated] at grant
      refine ⟨⟨s.stepFrame c, ?_⟩, ?_⟩
      · change _ ∧ _
        rw [grant]
        exact ⟨rfl, rfl⟩
      · rw [grant]
        change (s.movePointer q).claim.lastUrgent = _ ∧ (s.movePointer q).claim.lastRoutine = _
        rw [movePointer_claim, is.1]
        cases u <;> exact ⟨rfl, rfl⟩
    have first {u : Bool} {pointer q : QueueIx} (is : next u pointer q) : s.nextReady u pointer = some q := by
      obtain ⟨ready, k, small, rfl, first⟩ := is
      exact nextReady_first small (readyIn_iff.mpr ready) fun j hj h => first j hj (readyIn_iff.mp h)
    have unready {u : Bool} (pointer : QueueIx) (is : ∀ q, ¬ ready u q) : s.nextReady u pointer = none :=
      nextReady_none (fun q h => is q (readyIn_iff.mp h)) pointer
    refine ⟨fun fresh => one (arbitrate_freshStart fresh) rfl, fun fresh i announce lowest =>
        one (arbitrate_credit fresh (pendingInbox_lowest announce lowest)) rfl, fun fresh credit q is => ?_,
      fun fresh credit none q is => ?_, fun fresh credit none => ?_⟩
    · exact queued (u := true) (arbitrate_urgent fresh (pendingInbox_none credit) (first is)) is.1
    · obtain ⟨began, urgent, routine⟩ := queued (u := false)
        (arbitrate_routine fresh (pendingInbox_none credit) (unready _ none) (first is)) is.1
      exact ⟨began, routine, urgent⟩
    · have rest := arbitrate_presence fresh (pendingInbox_none credit) (unready _ (none true)) (unready _ (none false))
      refine ⟨fun due => ?_, fun undue => ?_⟩
      · rw [due] at rest
        exact one rest rfl
      · rw [undue] at rest
        unfold State.slotBegins
        rw [if_pos ⟨active, idle⟩, rest]
        rfl
  · refine ⟨s.slotOvertaken, s.slotBegins, rfl, rfl, ?_⟩
    have began {x : State} (line : x.trunk.line = .idle) : x.activityBegins = { x with
        trunk := { x.trunk with line := .activeRx, received := [], receivedCount := 0, reply := none },
        claim := { x.claim with joinCount := none } } := if_pos line
    have overtaken : s.slotOvertaken = match s.arbitrate with
        | some g => (s.grantUnsent g).activityBegins
        | none => s.activityBegins := if_pos ⟨active, idle⟩
    have begins : s.slotBegins = match s.arbitrate with
        | some g => s.grant g
        | none => s := if_pos ⟨active, idle⟩
    cases arbitrated : s.arbitrate with
    | none =>
      rw [overtaken, begins, arbitrated]
      dsimp only
      rw [began idle]
      exact ⟨rfl, fun q => .inl rfl⟩
    | some g =>
      rw [overtaken, begins, arbitrated]
      dsimp only
      cases g with
      | queue q =>
        obtain ⟨urgent, ready⟩ := arbitrate_queue_ready arbitrated
        obtain ⟨c, running, -⟩ := (queueReady_iff s q).mp (readyIn_iff.mp ready).2
        have still : (s.movePointer q).queue q = .running c := by
          rw [← running]
          simp only [State.queue, movePointer_queues]
        have unsent : s.grantUnsent (.queue q) = (s.movePointer q).setQueue q (.running { c with seqSent := none }) :=
          frameNotSent_running still
        have line : ((s.movePointer q).setQueue q (.running { c with seqSent := none })).trunk.line = .idle := by
          rw [setQueue_trunk, movePointer_trunk, idle]
        rw [unsent, began line, grant_queue idle running]
        refine ⟨?_, fun r => ?_⟩
        · unfold State.movePointer
          split <;> rfl
        · by_cases same : q = r
          · subst same
            exact .inr ⟨c, running, (setQueue_queue ..).trans (if_pos rfl)⟩
          · refine .inl ((setQueue_queue ..).trans ((if_neg same).trans ?_))
            simp only [State.queue, movePointer_queues]
      | freshStart =>
        rw [show s.grantUnsent .freshStart = s from rfl, began idle]
        exact ⟨by rw [State.grant, State.transmitFrame, transmit_idle idle]; rfl, fun q => .inl rfl⟩
      | credit i =>
        rw [show s.grantUnsent (.credit i) = s from rfl, began idle]
        exact ⟨by rw [State.grant, State.transmitFrame, transmit_idle idle]; rfl, fun q => .inl rfl⟩
      | presence =>
        rw [show s.grantUnsent .presence = s from rfl, began idle]
        exact ⟨by rw [State.grant, State.transmitFrame, transmit_idle idle]; rfl, fun q => .inl rfl⟩

end Sys2Proof.Machine
end

section
/-!
PROOFS. QUEUE_START and QUEUE_RESUME: what a queue that arrives at a descriptor comes to (R62 to R66, R68, R70 to R72,
R78 to R81, R96).
-/

namespace Sys2Proof.Machine

/-! ### Waiting -/

section
variable {s : State} {q : QueueIx} {d : DescIx}

theorem available_iff : s.available d = true ↔ s.isAvailable d := by
  rw [State.available, Bool.and_eq_true, Option.isNone_iff_eq_none]
  rfl

theorem setQueue_same {x : QueueState} (h : s.queue q = x) : s.setQueue q x = s := by
  have same : put s.queues q x = s.queues := by
    rw [← h]
    refine Vector.ext fun j hj => ?_
    rw [put_getElem]
    split
    · next e => subst e; rfl
    · rfl
  unfold State.setQueue
  rw [same]
  rfl

theorem arrive_unavailable (unavailable : ¬ s.isAvailable d) (n : Nat) :
    s.arrive q d n = s.enterWaiting q (.waitingAt d) := by
  cases n with
  | zero => rfl
  | succ n => exact if_neg (mt available_iff.mp unavailable)

theorem enterWaiting_again {x : QueueState} (waiting : (s.queue q).isWaiting = true) :
    s.enterWaiting q x = s.setQueue q x := if_pos waiting

theorem enterWaiting_begins {x : QueueState} (busy : (s.queue q).isWaiting = false) :
    s.enterWaiting q x = (s.setQueue q x).latchQueueIdle q := if_neg (by rw [busy]; exact nofun)

theorem latchQueueIdle_get (s : State) (q r : QueueIx) :
    (s.latchQueueIdle q).attention.queueIdle[r] = if q = r then true else s.attention.queueIdle[r] := put_get ..

/-! ### Acting on a position -/

/-- R65, R66: the answer of a command that makes the queue take, or arrive at, `d`. -/
theorem perform_canTake {cmd : Instr} (can : s.canTake cmd q d) :
    s.perform cmd = (s.arrive q d arrivalFuel).done ∧ isHost cmd = true ∧ cmd.wellFormed = true := by
  rcases can with ⟨rfl, stopped⟩ | ⟨rfl, at' | ⟨e, after', link⟩⟩
  · refine ⟨?_, rfl, rfl⟩
    simp only [State.perform, State.queueStartAnswer, indexField_queue, indexField_desc, stopped, if_true]
  · refine ⟨?_, rfl, rfl⟩
    simp only [State.perform, State.queueResumeAnswer, indexField_queue, at']
  · refine ⟨?_, rfl, rfl⟩
    simp only [State.perform, State.queueResumeAnswer, indexField_queue, after', State.followLink, link]

theorem exec_canTake {cmd : Instr} (hl : s.listens) (hs : s.settings.isSome = true) (can : s.canTake cmd q d) :
    exec cmd s = .next ((s.arrive q d arrivalFuel).answered 0x00 []) := by
  obtain ⟨performed, host, whole⟩ := perform_canTake can
  exact exec_done hl host whole (.inr hs) performed

end

/-! ### The checks of R64 -/

theorem bufferValid_iff {h : HostFields} : h.bufferValid = true ↔
    1 ≤ h.length.val ∧ h.length.val ≤ 512 ∧ h.address.val + h.length.val ≤ 32768 := by
  unfold HostFields.bufferValid
  rw [Bool.and_eq_true, Bool.and_eq_true, decide_eq_true_eq, decide_eq_true_eq, decide_eq_true_eq, and_assoc]
  rfl

theorem copyValid_iff (s : State) (h : HostFields) :
    copyValid s.own h (s.destinationsOf h) = true ↔ ¬ s.malformed h := by
  unfold State.malformed copyValid State.destinationsOf
  rw [← bufferValid_iff]
  cases h.kind <;> cases h.destination <;> simp [and_comm]

/-! ### Taking a descriptor -/

section
variable {s : State} {q : QueueIx} {d : DescIx}

/-- R63, items 1 to 4: the holder and the context of a taking. -/
def State.taking (s : State) (q : QueueIx) (d : DescIx) : State :=
  (s.setDesc d { s.desc d with holder := some q }).setQueue q (.running (s.newContext d))

theorem taking_desc (s : State) (q : QueueIx) (d e : DescIx) :
    (s.taking q d).desc e = if d = e then { s.desc d with holder := some q } else s.desc e := setDesc_desc ..

theorem taking_queue (s : State) (q r : QueueIx) (d : DescIx) :
    (s.taking q d).queue r = if q = r then .running (s.newContext d) else s.queue r := setQueue_queue ..

theorem takeDescriptor_valid (valid : ¬ s.malformed (s.desc d).host) : s.takeDescriptor q d =
    (s.taking q d).beginSteps q (s.newContext d) (s.newContext d).left :=
  if_pos ((copyValid_iff s _).mpr valid)

theorem takeDescriptor_malformed (malformed : s.malformed (s.desc d).host) : s.takeDescriptor q d =
    .decided { s.newContext d with outcome := some .malformed } (s.taking q d) :=
  if_neg fun valid => (copyValid_iff s _).mp valid malformed

theorem arrive_underWay {t : State} (available : s.isAvailable d) (taken : s.takeDescriptor q d = .underWay t)
    (n : Nat) : s.arrive q d (n + 1) = t := by
  refine (if_pos (available_iff.mpr available)).trans ?_
  rw [taken]

/-! ### A message that settles where it is taken -/

theorem mustWait_room {c : Context} (room : s.log.length < 64) : s.mustWait q c = false := by
  unfold State.mustWait
  rw [decide_eq_false (by unfold logLimit; omega), Bool.and_false]

theorem recordRequired_of_extraordinary {c : Context} (outcome : c.settledOutcome.ordinary = false) :
    s.recordRequired q c = true := by
  unfold State.recordRequired
  rw [outcome]
  simp

/-! R58, R71: what a hand-back writes. -/

theorem handBack_desc (s : State) (q : QueueIx) (c : Context) (e : DescIx) : (s.handBack q c).desc e =
    if c.head = e then { s.desc c.head with
      armed := false, holder := none, outcome := some c.settledOutcome, attempts := c.attempts, late := c.late,
      perDest := c.perDest } else s.desc e := by
  unfold State.handBack
  split <;> exact setDesc_desc ..

theorem handBack_log (s : State) (q : QueueIx) (c : Context) : (s.handBack q c).log =
    if s.recordRequired q c = true then s.log ++ [c.completion q] else s.log := by
  unfold State.handBack
  split <;> rfl

theorem handBack_queue (s : State) (q : QueueIx) (c : Context) (r : QueueIx) :
    (s.handBack q c).queue r = s.queue r := by
  unfold State.handBack
  split <;> rfl

theorem handBack_peers (s : State) (q : QueueIx) (c : Context) : (s.handBack q c).peers = s.peers := by
  unfold State.handBack
  split <;> rfl

theorem arrive_decided {c : Context} (available : s.isAvailable d)
    (taken : s.takeDescriptor q d = .decided c (s.taking q d)) (room : s.log.length < 64)
    (link : (s.desc d).host.link = none) (n : Nat) : s.arrive q d (n + 1) =
      (((s.taking q d).handBack q c).setQueue q (.waitingAfter d)).latchQueueIdle q := by
  have wait : (s.taking q d).mustWait q c = false := mustWait_room room
  have unlinked : (((s.taking q d).handBack q c).desc d).host.link = none := by
    have kept := (handBack_keeps (s.taking q d) q c).host d
    rw [kept, taking_desc, if_pos rfl]
    exact link
  have busy : (((s.taking q d).handBack q c).queue q).isWaiting = false := by
    rw [handBack_queue, taking_queue, if_pos rfl]
    rfl
  refine (if_pos (available_iff.mpr available)).trans ?_
  rw [taken]
  dsimp only
  rw [wait, if_neg Bool.false_ne_true, unlinked]
  exact enterWaiting_begins busy

/-- R65, R66, R71, R72. -/
theorem arrive_settledAtOnce {c : Context} {o : Outcome} {perDest : Option (List (Station × Outcome))}
    (available : s.isAvailable d) (taken : s.takeDescriptor q d = .decided c (s.taking q d)) (head : c.head = d)
    (room : s.log.length < 64) (link : (s.desc d).host.link = none) (counts : c.attempts = 0 ∧ c.late = 0)
    (outcome : c.settledOutcome = o) (list : c.perDest = perDest) (extraordinary : o.ordinary = false) (n : Nat) :
    s.settledAtOnce (s.arrive q d (n + 1)) q d o perDest := by
  obtain ⟨attempts, late⟩ := counts
  have kept := handBack_keeps (s.taking q d) q c
  have required : (s.taking q d).recordRequired q c = true :=
    recordRequired_of_extraordinary (by rw [outcome]; exact extraordinary)
  rw [arrive_decided available taken room link n]
  refine ⟨?_, fun e he => ?_, ?_, ?_, fun r hr => ?_, ?_, handBack_peers .., kept.trunk, kept.inboxes, kept.memory⟩
  · refine (handBack_desc ..).trans ?_
    rw [if_pos head, head, taking_desc, if_pos rfl, outcome, list, attempts, late]
  · refine (handBack_desc ..).trans ?_
    rw [head, if_neg (Ne.symm he), taking_desc, if_neg (Ne.symm he)]
  · refine (handBack_log ..).trans ?_
    rw [if_pos required, Context.completion, head, outcome, list, attempts, late]
    rfl
  · exact (setQueue_queue ..).trans (if_pos rfl)
  · refine (setQueue_queue ..).trans ((if_neg (Ne.symm hr)).trans ?_)
    rw [handBack_queue, taking_queue, if_neg (Ne.symm hr)]
  · exact (latchQueueIdle_get ..).trans (if_pos rfl)

end

/-! R70: the outcome and the list of a message. -/

theorem settledOutcome_unsettled {c : Context} (unsettled : c.outcome = none) : c.settledOutcome = c.messageOutcome := by
  rw [Context.settledOutcome, unsettled]
  rfl

theorem settledOutcome_one {c : Context} {p : Station} (one : c.destinations = .one p) (unsettled : c.outcome = none) :
    c.settledOutcome = c.outcomes.headD .notTried := by
  rw [settledOutcome_unsettled unsettled, Context.messageOutcome, one]
  cases c.copy.kind <;> rfl

theorem perDest_one {c : Context} {p : Station} (one : c.destinations = .one p) : c.perDest = none := by
  rw [Context.perDest, one]
  cases c.copy.kind <;> rfl

theorem settledOutcome_list {c : Context} {l : List Station} (kind : c.copy.kind = .message)
    (list : c.destinations = .list l) (unsettled : c.outcome = none) : c.settledOutcome = fanoutOutcome c.outcomes := by
  have all : c.outcomes.all (· == .delivered) = true ↔ ∀ o ∈ c.outcomes, o = .delivered := by
    simp only [List.all_eq_true, beq_iff_eq]
  have any : c.outcomes.any (· == .delivered) = true ↔ .delivered ∈ c.outcomes := by
    simp only [List.any_eq_true, beq_iff_eq, exists_eq_right]
  rw [settledOutcome_unsettled unsettled, Context.messageOutcome, kind, list, fanoutOutcome]
  simp only [all, any]

theorem fanoutOutcome_ne_malformed (l : List Outcome) : fanoutOutcome l ≠ .malformed := by
  unfold fanoutOutcome
  split
  · decide
  · split <;> decide

theorem perDest_list {c : Context} {l : List Station} (kind : c.copy.kind = .message) (list : c.destinations = .list l)
    (unsettled : c.outcome = none) : c.perDest = some (l.zip c.outcomes) := by
  rw [Context.perDest, kind, list]
  exact if_neg (by rw [settledOutcome_list kind list unsettled]; exact fanoutOutcome_ne_malformed _)

/-- R70: no list is written back of a malformed message. -/
theorem perDest_malformed {c : Context} (malformed : c.outcome = some .malformed) : c.perDest = none := by
  have outcome : c.settledOutcome = .malformed := by rw [Context.settledOutcome, malformed]; rfl
  unfold Context.perDest
  split
  · exact if_pos outcome
  · rfl

/-- Settles O45. -/
theorem queueStartAndResumeActByState : Obligations.QueueStartAndResumeActByState := by
  unfold Obligations.QueueStartAndResumeActByState
  refine ⟨fun q d s hl hs => ?_, fun cmd q d s hl hs can available malformed link room => ?_, fun a b s hl hs => ?_⟩
  · intro start resume
    have resumes {a : Answer} (performed : s.queueResumeAnswer (octet q.val) = a) : s.perform resume = a := performed
    refine ⟨fun stopped unavailable => ?_, fun busy => ?_, fun waiting unavailable => ?_, fun waiting link => ?_,
      fun e waiting link unavailable => ?_, fun idle => ?_⟩
    · have busy : (s.queue q).isWaiting = false := by rw [stopped]; rfl
      refine ⟨_, exec_canTake hl hs (.inl ⟨rfl, stopped⟩), ?_⟩
      rw [arrive_unavailable unavailable, enterWaiting_begins busy]
      exact ⟨rfl, (setQueue_queue ..).trans (if_pos rfl),
        fun r hr => (setQueue_queue ..).trans (if_neg (Ne.symm hr)), rfl,
        (latchQueueIdle_get ..).trans (if_pos rfl), fun r hr => (latchQueueIdle_get ..).trans (if_neg (Ne.symm hr))⟩
    · refine exec_refused hl rfl rfl (.inr hs) (st := .refusedState) ?_ (by decide)
      simp only [State.perform, State.queueStartAnswer, indexField_queue, indexField_desc, start, if_neg busy]
    · have taken := exec_canTake hl hs (cmd := resume) (.inr ⟨rfl, .inl waiting⟩)
      rw [arrive_unavailable unavailable, enterWaiting_again (by rw [waiting]; rfl), setQueue_same waiting] at taken
      exact taken
    · have same : s.followLink q d = s := by
        unfold State.followLink
        rw [link]
        exact (enterWaiting_again (by rw [waiting]; rfl)).trans (setQueue_same waiting)
      refine exec_done hl rfl rfl (.inr hs) ?_
      simp only [State.perform, State.queueResumeAnswer, indexField_queue, resume, waiting, same]
    · have taken := exec_canTake hl hs (cmd := resume) (.inr ⟨rfl, .inr ⟨e, waiting, link⟩⟩)
      rw [arrive_unavailable unavailable, enterWaiting_again (by rw [waiting]; rfl)] at taken
      exact taken
    · refine exec_refused hl rfl rfl (.inr hs) (st := .refusedState) ?_ (by decide)
      simp only [State.perform, State.queueResumeAnswer, indexField_queue, resume]
      cases h : s.queue q with
      | waitingAt e => exact absurd h (idle e).1
      | waitingAfter e => exact absurd h (idle e).2
      | _ => rfl
  · exact ⟨_, exec_canTake hl hs can, arrive_settledAtOnce available (takeDescriptor_malformed malformed) rfl room link
      ⟨rfl, rfl⟩ rfl (perDest_malformed rfl) rfl _⟩
  · refine ⟨fun beyond => ?_, fun beyond => ⟨?_, ?_⟩⟩
    · refine exec_refused hl rfl rfl (.inr hs) (st := .refusedArg) ?_ (by decide)
      simp only [State.perform, State.queueStartAnswer]
      rcases beyond with queue | index
      · rw [indexField_beyond queue]
      · rw [indexField_beyond index]
        cases indexField 4 a <;> rfl
    · refine exec_refused hl rfl rfl (.inr hs) (st := .refusedArg) ?_ (by decide)
      simp only [State.perform, State.queueResumeAnswer, indexField_beyond beyond]
    · refine exec_refused hl rfl rfl (.inr hs) (st := .refusedArg) ?_ (by decide)
      simp only [State.perform, State.queueStopAnswer, indexField_beyond beyond]

/-! ### The first step (R68, R79, R81, R96) -/

section
variable {s : State} {q : QueueIx} {d : DescIx}

theorem record_firstContext (s : State) (d : DescIx) (k later : Nat) :
    ((s.firstContext d k later).record .peerSilent).outcomes =
      List.replicate (k + 1) .peerSilent ++ List.replicate later .notTried := by
  change (List.replicate k Outcome.peerSilent ++ List.replicate (later + 1) Outcome.notTried).set (k + 1 - 1) _ = _
  rw [Nat.add_sub_cancel, List.set_append_right _ _ (by rw [List.length_replicate]), List.length_replicate,
    Nat.sub_self, List.replicate_succ, List.set_cons_zero, List.replicate_succ', List.append_assoc]
  rfl

theorem firstContext_passedOver (s : State) (d : DescIx) (k later : Nat) :
    (s.firstContext d k (later + 1)).passedOver = s.firstContext d (k + 1) later :=
  congrArg (fun l => { s.firstContext d (k + 1) later with outcomes := l }) (record_firstContext s d k (later + 1))

theorem firstContext_fresh (s : State) (d : DescIx) (k later : Nat) :
    (s.firstContext d k later).freshStep = s.firstContext d k later := rfl

theorem firstContext_destinations (s : State) (d : DescIx) (k later : Nat) :
    (s.firstContext d k later).destinations = s.destinationsOf (s.desc d).host := by
  cases h : (s.desc d).host.destination <;> simp only [State.firstContext, State.destinationsOf, h]

/-- R63: the context of a taking, with its destinations counted. -/
theorem newContext_eq {later : Nat} (count : (s.newContext d).destCount = later + 1) :
    s.newContext d = s.firstContext d 0 later := by
  have outcomes : (s.newContext d).outcomes = List.replicate (later + 1) .notTried := by
    rw [← count]
    rfl
  have whole : s.newContext d = { s.firstContext d 0 later with
      destinations := s.destinationsOf (s.desc d).host, outcomes := (s.newContext d).outcomes } := rfl
  rw [whole, outcomes, ← firstContext_destinations s d 0 later]
  rfl

/-- R68, R96: the steps toward SILENT stations are passed over. -/
theorem beginSteps_silent {t : State} {k m later : Nat}
    (silent : ∀ j < m, t.silentStep (s.firstContext d (k + j) (m - j + later)) = true) :
    t.beginSteps q (s.firstContext d k (m + later)) (m + later) =
      t.beginSteps q (s.firstContext d (k + m) later) later := by
  induction m generalizing k with
  | zero => rw [Nat.zero_add, Nat.add_zero]
  | succ m ih =>
    have first := silent 0 (Nat.succ_pos m)
    rw [Nat.add_zero, Nat.sub_zero] at first
    have rest := ih (k := k + 1) fun j hj => by
      have later := silent (j + 1) (by omega)
      rwa [show k + (j + 1) = k + 1 + j by omega, show m + 1 - (j + 1) = m - j by omega] at later
    rw [Nat.succ_add, beginSteps_succ, firstContext_fresh, if_pos (by rw [← Nat.succ_add]; exact first),
      firstContext_passedOver, rest, show k + 1 + m = k + (m + 1) by omega]

theorem beginSteps_awake {t : State} {c : Context} (awake : t.silentStep c.freshStep = false) (left : Nat) :
    t.beginSteps q c left = .underWay (t.beginStep q c.freshStep) := by
  cases left with
  | zero => rw [beginSteps_zero, if_neg (by rw [awake]; exact nofun)]
  | succ n => rw [beginSteps_succ, if_neg (by rw [awake]; exact nofun)]

theorem silentStep_of_station {t : State} {c : Context} {p : Station} (station : c.station = some p) :
    t.silentStep c = true ↔ (t.peer p).state = .silent := by
  unfold State.silentStep
  rw [station]
  exact beq_iff_eq

theorem silentStep_false {t : State} {c : Context} (awake : ∀ p, c.station = some p → (t.peer p).state ≠ .silent) :
    t.silentStep c = false := by
  cases station : c.station with
  | none => simp only [State.silentStep, station]
  | some p => exact Bool.eq_false_iff.mpr (mt (silentStep_of_station station).mp (awake p station))

/-! The station of a step. -/

theorem firstContext_one {p : Station} (one : (s.desc d).host.destination = .station p) (k later : Nat) :
    (s.firstContext d k later).station = some p ∧ (s.newContext d).destCount = 1 := by
  have dest := firstContext_destinations s d k later
  rw [State.destinationsOf, one] at dest
  refine ⟨by simp only [Context.station, dest], ?_⟩
  simp only [Context.destCount, State.newContext, State.destinationsOf, one]

theorem firstContext_list {n : ListIx} (list : (s.desc d).host.destination = .list n) (k later : Nat) :
    (s.firstContext d k later).station = (s.fanout n)[k]? ∧ (s.newContext d).destCount = (s.fanout n).length := by
  have dest := firstContext_destinations s d k later
  rw [State.destinationsOf, list] at dest
  refine ⟨by simp only [Context.station, dest]; rfl, ?_⟩
  simp only [Context.destCount, State.newContext, State.destinationsOf, list]

theorem firstContext_all (all : (s.desc d).host.destination = .all) (k later : Nat) :
    (s.firstContext d k later).station = none ∧ (s.newContext d).destCount = 1 := by
  have dest := firstContext_destinations s d k later
  rw [State.destinationsOf, all] at dest
  refine ⟨by simp only [Context.station, dest], ?_⟩
  simp only [Context.destCount, State.newContext, State.destinationsOf, all]

/-- R63: the taking of a message whose destinations are counted. -/
theorem takeDescriptor_counted {later : Nat} (valid : ¬ s.malformed (s.desc d).host)
    (count : (s.newContext d).destCount = later + 1) :
    s.takeDescriptor q d = (s.taking q d).beginSteps q (s.firstContext d 0 later) later := by
  have left : (s.newContext d).left = later := by
    rw [Context.left, count]
    exact Nat.add_sub_cancel ..
  rw [takeDescriptor_valid valid, left, newContext_eq count]

/-- R68: a message whose first destination that is not SILENT is `p`. -/
theorem takeDescriptor_message {p : Station} {skipped later : List Station} (valid : ¬ s.malformed (s.desc d).host)
    (message : s.hasMessage d p skipped later) :
    s.takeDescriptor q d =
        .underWay ((s.taking q d).beginStep q (s.firstContext d skipped.length later.length)) ∧
      (s.firstContext d skipped.length later.length).pair = some (p, (s.desc d).host.inbox) := by
  obtain ⟨kind, awake, dest⟩ := message
  have begins {k n : Nat} (station : (s.firstContext d k n).station = some p) :
      (s.taking q d).beginSteps q (s.firstContext d k n) n =
        .underWay ((s.taking q d).beginStep q (s.firstContext d k n)) := by
    refine beginSteps_awake (silentStep_false fun r hr => ?_) n
    cases station.symm.trans hr
    exact awake
  rcases dest with ⟨one, rfl, rfl⟩ | ⟨n, list, stations, silent⟩
  · obtain ⟨station, count⟩ := firstContext_one one 0 0
    exact ⟨(takeDescriptor_counted valid count).trans (begins station), pair_eq_some.mpr ⟨kind, station, rfl⟩⟩
  · have station := (firstContext_list list skipped.length later.length).1
    have count := (firstContext_list list 0 0).2
    rw [stations, List.getElem?_append_right (Nat.le_refl _), Nat.sub_self] at station
    rw [stations, List.length_append, List.length_cons, ← Nat.add_assoc] at count
    have over' : (s.taking q d).beginSteps q (s.firstContext d 0 (skipped.length + later.length))
        (skipped.length + later.length) =
          (s.taking q d).beginSteps q (s.firstContext d (0 + skipped.length) later.length) later.length := by
      refine beginSteps_silent fun j hj => ?_
      have passed := (firstContext_list list (0 + j) (skipped.length - j + later.length)).1
      rw [Nat.zero_add, stations, List.getElem?_append_left hj, List.getElem?_eq_getElem hj] at passed
      rw [Nat.zero_add, silentStep_of_station passed]
      exact silent _ (List.getElem_mem hj)
    rw [Nat.zero_add] at over'
    exact ⟨(takeDescriptor_counted valid count).trans (over'.trans (begins station)),
      pair_eq_some.mpr ⟨kind, station, rfl⟩⟩

/-- R68, R79: a BROADCAST, or a NOTICE to a station that is not SILENT, takes no lock. -/
theorem takeDescriptor_lone (valid : ¬ s.malformed (s.desc d).host)
    (lone : (s.desc d).host.kind = .broadcast ∨ ((s.desc d).host.kind = .notice ∧
      ∃ p, (s.desc d).host.destination = .station p ∧ (s.peer p).state ≠ .silent)) :
    s.takeDescriptor q d = .underWay ((s.taking q d).setQueue q (.running (s.firstContext d 0 0))) := by
  have unpaired (other : (s.desc d).host.kind ≠ .message) : (s.firstContext d 0 0).pair = none := by
    unfold Context.pair
    exact if_neg fun message => other (beq_iff_eq.mp message)
  have alone : (s.firstContext d 0 0).pair = none ∧ (s.newContext d).destCount = 1 ∧
      ∀ p, (s.firstContext d 0 0).station = some p → (s.peer p).state ≠ .silent := by
    rcases lone with broadcast | ⟨notice, p, one, awake⟩
    · have all : (s.desc d).host.destination = .all := by
        by_contra other
        exact valid (.inr (.inl ⟨broadcast, other⟩))
      obtain ⟨station, count⟩ := firstContext_all all 0 0
      exact ⟨unpaired (by rw [broadcast]; decide), count, fun p hp => by rw [station] at hp; cases hp⟩
    · obtain ⟨station, count⟩ := firstContext_one one 0 0
      refine ⟨unpaired (by rw [notice]; decide), count, fun r hr => ?_⟩
      cases station.symm.trans hr
      exact awake
  obtain ⟨unpaired, count, awake⟩ := alone
  have heard : (s.taking q d).silentStep (s.firstContext d 0 0) = false := silentStep_false awake
  rw [takeDescriptor_counted valid count, beginSteps_awake (c := s.firstContext d 0 0) heard, firstContext_fresh,
    State.beginStep, unpaired]

/-- R68, R70: a message whose destinations are all SILENT. -/
theorem takeDescriptor_silent {later : Nat} (valid : ¬ s.malformed (s.desc d).host)
    (count : (s.newContext d).destCount = later + 1)
    (silent : ∀ k ≤ later, (s.taking q d).silentStep (s.firstContext d k (later - k)) = true) :
    s.takeDescriptor q d = .decided ((s.firstContext d later 0).record .peerSilent) (s.taking q d) := by
  have over' : (s.taking q d).beginSteps q (s.firstContext d 0 (later + 0)) (later + 0) =
      (s.taking q d).beginSteps q (s.firstContext d (0 + later) 0) 0 :=
    beginSteps_silent fun j hj => by
      rw [Nat.zero_add]
      exact silent j hj.le
  have last := silent later (Nat.le_refl _)
  rw [Nat.sub_self] at last
  rw [takeDescriptor_counted valid count]
  refine over'.trans ?_
  rw [Nat.zero_add, beginSteps_zero, firstContext_fresh, if_pos last]

/-- R70: the outcome and the list of a message whose destinations were all SILENT. -/
theorem silent_outcomes (s : State) (d : DescIx) (later : Nat) :
    ((s.firstContext d later 0).record .peerSilent).outcomes = List.replicate (later + 1) .peerSilent :=
  (record_firstContext s d later 0).trans (List.append_nil _)

end

/-- Settles O44. -/
theorem startAndResumeTakeAnAvailableMessage : Obligations.StartAndResumeTakeAnAvailableMessage := by
  unfold Obligations.StartAndResumeTakeAnAvailableMessage
  intro cmd q d s hl hs can available valid x i holds
  have runs {t : State} (taken : s.takeDescriptor q d = .underWay t) :
      exec cmd s = .next (t.answered 0x00 []) := by
    rw [exec_canTake hl hs can, show arrivalFuel = 128 + 1 from rfl, arrive_underWay available taken]
  have holding {t : State} (ran : exec cmd s = .next (t.answered 0x00 []))
      (only : t = { s with store := t.store, queues := t.queues,
                           peers := { s.peers with entries := t.peers.entries } })
      (store : t.store = (s.taking q d).store)
      (queues : ∀ r, r ≠ q → t.queue r = (s.taking q d).queue r) : holds t := by
    have descs (e : DescIx) : t.desc e = (s.taking q d).desc e := by simp only [State.desc, store]
    refine ⟨ran, only, by rw [store]; rfl, ?_, fun e he => ?_, fun r hr => ?_⟩
    · rw [descs, taking_desc, if_pos rfl]
    · rw [descs, taking_desc, if_neg (Ne.symm he)]
    · rw [queues r hr, taking_queue, if_neg (Ne.symm hr)]
  refine ⟨fun p skipped later message => ?_, fun lone => ?_, fun link room kind => ⟨fun p one silent => ?_,
    fun n list silent => ?_⟩⟩
  · intro c
    obtain ⟨taken, pair⟩ := takeDescriptor_message (q := q) valid message
    have begins : (s.taking q d).beginStep q c = (s.taking q d).takeLock q c p i := by
      unfold State.beginStep
      rw [pair]
    rw [begins] at taken
    cases lock : (s.sendPair p i).lock with
    | some holder =>
      have awaits : (s.taking q d).takeLock q c p i = (s.taking q d).setQueue q (.running { c with lock := .awaited }) := by
        unfold State.takeLock
        rw [show ((s.taking q d).sendPair p i).lock = some holder from lock]
      rw [awaits] at taken
      exact ⟨_, holding (runs taken) rfl rfl fun r hr => (setQueue_queue ..).trans (if_neg (Ne.symm hr)),
        fun _ => ⟨(setQueue_queue ..).trans (if_pos rfl), rfl⟩, fun free => nomatch free⟩
    | none =>
      have takes : (s.taking q d).takeLock q c p i =
          ((s.taking q d).setLock p i (some q)).readHint q { c with lock := .taken } p i := by
        unfold State.takeLock
        rw [show ((s.taking q d).sendPair p i).lock = none from lock]
      have hint : ((s.taking q d).setLock p i (some q)).hint p i = s.hint p i := setSendPair_hint ..
      obtain ⟨y, reads, held, running⟩ : ∃ y, ((s.taking q d).setLock p i (some q)).readHint q { c with lock := .taken } p i =
          ((s.taking q d).setLock p i (some q)).setQueue q y ∧
          (s.hint p i = some 0 → y = .held { c with lock := .taken, hold := some s.holdTicks }) ∧
          (s.hint p i ≠ some 0 → y = .running { c with lock := .taken }) := by
        unfold State.readHint
        rw [hint]
        split
        · next empty => exact ⟨_, rfl, fun _ => rfl, fun other => absurd empty other⟩
        · next other => exact ⟨_, rfl, fun empty => absurd empty other, fun _ => rfl⟩
      rw [takes, reads] at taken
      have now : (((s.taking q d).setLock p i (some q)).setQueue q y).queue q = y := (setQueue_queue ..).trans (if_pos rfl)
      have pairs (r : Station) (j : InboxIx) : (((s.taking q d).setLock p i (some q)).setQueue q y).sendPair r j =
          if p = r ∧ i = j then { s.sendPair p i with lock := some q } else s.sendPair r j := setSendPair_sendPair ..
      refine ⟨_, holding (runs taken) rfl rfl fun r hr => (setQueue_queue ..).trans (if_neg (Ne.symm hr)),
        fun busy => absurd rfl busy, fun _ => ⟨?_, fun empty => ?_, fun other => ?_, fun r j differs => ?_, fun r => ?_⟩⟩
      · rw [pairs, if_pos ⟨rfl, rfl⟩]
      · rw [now, held empty]
      · rw [now, running other]
      · rw [pairs, if_neg fun same => differs (by rw [← same.1, ← same.2])]
      · change ({ ((s.taking q d).setPeer p _).peer r with send := (s.peer r).send } : PeerEntry) = s.peer r
        rw [setPeer_peer]
        split
        · next same => subst same; rfl
        · rfl
  · have taken := takeDescriptor_lone (q := q) valid lone
    exact ⟨_, holding (runs taken) rfl rfl fun r hr => (setQueue_queue ..).trans (if_neg (Ne.symm hr)),
      (setQueue_queue ..).trans (if_pos rfl), rfl⟩
  · obtain ⟨-, count⟩ := firstContext_one one 0 0
    have dest := firstContext_destinations s d 0 0
    rw [State.destinationsOf, one] at dest
    have taken := takeDescriptor_silent (q := q) valid count fun k _ =>
      (silentStep_of_station (firstContext_one one k _).1).mpr silent
    refine ⟨_, exec_canTake hl hs can, arrive_settledAtOnce available taken rfl room link ⟨rfl, rfl⟩ ?_ ?_ rfl _⟩
    · rw [settledOutcome_one (c := (s.firstContext d 0 0).record .peerSilent) (p := p) dest rfl, silent_outcomes]
      rfl
    · exact perDest_one (p := p) dest
  · have message : x.kind = .message := by
      cases other : x.kind with
      | message => rfl
      | notice => exact absurd (.inr (.inr (.inr ⟨n, list, .inl other⟩))) valid
      | broadcast => exact absurd other kind
    have full : s.fanout n ≠ [] := fun empty => valid (.inr (.inr (.inr ⟨n, list, .inr (.inl empty)⟩)))
    obtain ⟨later, length⟩ : ∃ later, (s.fanout n).length = later + 1 :=
      ⟨(s.fanout n).length - 1, by have := List.length_pos_iff.mpr full; omega⟩
    have count := (firstContext_list list 0 0).2
    rw [length] at count
    have dest := firstContext_destinations s d later 0
    rw [State.destinationsOf, list] at dest
    have taken := takeDescriptor_silent (q := q) valid count fun k hk => by
      have within : k < (s.fanout n).length := by omega
      have station := (firstContext_list list k (later - k)).1
      rw [List.getElem?_eq_getElem within] at station
      exact (silentStep_of_station station).mpr (silent _ (List.getElem_mem within))
    refine ⟨_, exec_canTake hl hs can, arrive_settledAtOnce available taken rfl room link ⟨rfl, rfl⟩ ?_ ?_ rfl _⟩
    · rw [settledOutcome_list (c := (s.firstContext d later 0).record .peerSilent) message dest rfl, silent_outcomes,
        fanoutOutcome, if_neg, if_neg]
      · rw [List.mem_replicate]
        exact fun delivered => nomatch delivered.2
      · intro all
        cases all .peerSilent (List.mem_replicate.mpr ⟨Nat.succ_ne_zero _, rfl⟩)
    · rw [perDest_list (c := (s.firstContext d later 0).record .peerSilent) message dest rfl, silent_outcomes, ← length]
      refine congrArg some (List.ext_getElem (by simp) fun k h1 h2 => ?_)
      rw [List.getElem_zip, List.getElem_replicate, List.getElem_map]

end Sys2Proof.Machine
end

section
/-!
PROOFS. The end of a step and the settlement of a message: what they write back, hand on and leave alone (R69 to R72,
R79 to R81, R95, R146, R149), and QUEUE_STOP (R73 to R75).
-/

namespace Sys2Proof.Machine

/-! ### What the engine keeps of the pair records -/

/-- No hint, anchor or blind count differs. -/
structure PairsKept (s t : State) : Prop where
  hint : ∀ p i, t.hint p i = s.hint p i
  anchor : ∀ p i, (t.sendPair p i).anchor = (s.sendPair p i).anchor
  blind : ∀ p i, (t.sendPair p i).blind = (s.sendPair p i).blind

namespace PairsKept

variable {s t u : State} {q : QueueIx}

theorem refl : PairsKept s s := ⟨fun _ _ => rfl, fun _ _ => rfl, fun _ _ => rfl⟩

theorem trans (h : PairsKept s t) (k : PairsKept t u) : PairsKept s u :=
  ⟨fun p i => (k.hint p i).trans (h.hint p i), fun p i => (k.anchor p i).trans (h.anchor p i),
    fun p i => (k.blind p i).trans (h.blind p i)⟩

theorem of_leaves (h : LeavesOthers q s t) : PairsKept s t := ⟨h.hint, h.anchor, h.blind⟩

theorem of_peers (peers : t.peers = s.peers) : PairsKept s t where
  hint p i := by simp only [State.hint, State.peer, peers]
  anchor p i := by simp only [State.sendPair, State.peer, peers]
  blind p i := by simp only [State.sendPair, State.peer, peers]

theorem setQueue (x : QueueState) : PairsKept s (s.setQueue q x) := of_peers rfl

theorem readHint (c : Context) (p : Station) (i : InboxIx) : PairsKept s (s.readHint q c p i) :=
  of_leaves (q := q) (.readHint c p i)

theorem setLock (p : Station) (i : InboxIx) (l : Option QueueIx) : PairsKept s (s.setLock p i l) where
  hint r j := setSendPair_hint ..
  anchor r j := by
    rw [State.setLock, setSendPair_sendPair]
    split
    · next same => rw [← same.1, ← same.2]
    · rfl
  blind r j := by
    rw [State.setLock, setSendPair_sendPair]
    split
    · next same => rw [← same.1, ← same.2]
    · rfl

theorem releaseLock (p : Station) (i : InboxIx) : PairsKept s (s.releaseLock q p i) := by
  unfold State.releaseLock
  split
  · exact (setLock ..).trans (readHint ..)
  · exact setLock ..

theorem dropLock (c : Context) : PairsKept s (s.dropLock q c) := by
  unfold State.dropLock
  split
  · split
    · exact releaseLock ..
    · exact refl
  · exact refl

theorem settle (c : Context) (stopping : Bool) : PairsKept s (s.settle q c stopping) := by
  have handed : PairsKept s (s.handBack q c) := of_peers (handBack_peers ..)
  unfold State.settle
  split
  · exact setQueue _
  · dsimp only
    split
    · exact handed.trans (setQueue _)
    · exact handed.trans (of_leaves (followLink_leaves _ q _))

theorem continueStep (c : Context) : PairsKept s (s.continueStep q c) := by
  unfold State.continueStep
  split
  · exact readHint ..
  · exact setQueue _

/-- R95: after the blind count of its pair, the end of a step changes none. -/
theorem endStep (c : Context) (stopping : Bool) (o : Outcome) :
    PairsKept (s.raiseBlind c) (s.endStep q c stopping o) := by
  unfold State.endStep
  dsimp only
  split
  · exact (dropLock c).trans (settle ..)
  · split
    · next t ht => exact (dropLock c).trans (of_leaves (.beginSteps ht))
    · next c' t ht =>
      obtain ⟨rfl, -⟩ := beginSteps_decided ht
      exact (dropLock c).trans (settle ..)

end PairsKept

/-! ### The parts of the end of a step -/

section
variable {s : State} {q : QueueIx} {c : Context} {p : Station} {i : InboxIx}

theorem raiseBlind_confirmed (confirmed : c.unconfirmed = false) : s.raiseBlind c = s := by
  unfold State.raiseBlind
  rw [confirmed]
  split <;> rfl

theorem raiseBlind_sendPair (s : State) (c : Context) (r : Station) (j : InboxIx) :
    (s.raiseBlind c).sendPair r j = if c.unconfirmed = true ∧ c.pair = some (r, j)
      then { s.sendPair r j with blind := min 3 ((s.sendPair r j).blind + 1) } else s.sendPair r j := by
  unfold State.raiseBlind
  cases pair : c.pair with
  | none => exact (if_neg fun h => nomatch h.2).symm
  | some target =>
    obtain ⟨p, i⟩ := target
    dsimp only
    by_cases unconfirmed : c.unconfirmed = true
    · rw [if_pos unconfirmed, setSendPair_sendPair]
      by_cases same : p = r ∧ i = j
      · obtain ⟨rfl, rfl⟩ := same
        rw [if_pos ⟨rfl, rfl⟩, if_pos ⟨unconfirmed, rfl⟩]
        rfl
      · rw [if_neg same, if_neg]
        rintro ⟨-, h⟩
        cases h
        exact same ⟨rfl, rfl⟩
    · rw [if_neg unconfirmed, if_neg fun h => unconfirmed h.1]

/-- R95, item 1. -/
theorem raiseBlind_blind (s : State) (c : Context) (r : Station) (j : InboxIx) :
    ((s.raiseBlind c).sendPair r j).blind = if c.unconfirmed = true ∧ c.pair = some (r, j)
      then min 3 ((s.sendPair r j).blind + 1) else (s.sendPair r j).blind := by
  rw [raiseBlind_sendPair]
  split <;> rfl

theorem raiseBlind_anchor (s : State) (c : Context) (r : Station) (j : InboxIx) :
    ((s.raiseBlind c).sendPair r j).anchor = (s.sendPair r j).anchor := by
  rw [raiseBlind_sendPair]
  split <;> rfl

theorem raiseBlind_hint (s : State) (c : Context) (r : Station) (j : InboxIx) :
    (s.raiseBlind c).hint r j = s.hint r j := by
  unfold State.raiseBlind
  split
  · split
    · exact setSendPair_hint ..
    · rfl
  · rfl

/-- R95, items 1 and 2: the state in which the message of an ended step settles or its next step begins. -/
def State.stepLeft (s : State) (q : QueueIx) (c : Context) : State := (s.raiseBlind c).dropLock q c

/-- Neither the descriptors nor the log nor the latches are touched when a step ends. -/
theorem stepLeft_only (s : State) (q : QueueIx) (c : Context) : s.stepLeft q c = { s with
    peers := (s.stepLeft q c).peers, queues := (s.stepLeft q c).queues } := by
  have raised (x : State) : x.raiseBlind c = { x with peers := (x.raiseBlind c).peers } := by
    unfold State.raiseBlind
    split
    · split <;> rfl
    · rfl
  have dropped (x : State) : x.dropLock q c = { x with
      peers := (x.dropLock q c).peers, queues := (x.dropLock q c).queues } := by
    unfold State.dropLock State.releaseLock State.readHint
    split
    · split
      · split
        · split <;> rfl
        · rfl
      · rfl
    · rfl
  have whole := dropped (s.raiseBlind c)
  rw [raised s] at whole
  rw [State.stepLeft, raised s]
  exact whole

theorem stepLeft_desc (s : State) (q : QueueIx) (c : Context) (d : DescIx) : (s.stepLeft q c).desc d = s.desc d := by
  rw [stepLeft_only]
  rfl

theorem stepLeft_log (s : State) (q : QueueIx) (c : Context) : (s.stepLeft q c).log = s.log := by
  rw [stepLeft_only]

theorem stepLeft_attention (s : State) (q : QueueIx) (c : Context) : (s.stepLeft q c).attention = s.attention := by
  rw [stepLeft_only]

/-- R71, R74, R95: a step that ends its message. -/
theorem endStep_last {stopping : Bool} {o : Outcome} (last : stopping = true ∨ o = .stopped ∨ c.left = 0) :
    s.endStep q c stopping o = (s.stepLeft q c).settle q (c.ended o) stopping := by
  unfold State.endStep
  refine if_pos ?_
  rcases last with rfl | rfl | left
  · rfl
  · exact Bool.or_eq_true_iff.mpr (.inl (Bool.or_true _))
  · exact Bool.or_eq_true_iff.mpr (.inr (beq_iff_eq.mpr left))

theorem settle_room {stopping : Bool} (room : s.log.length < 64) : s.settle q c stopping =
    if stopping = true then (s.handBack q c).setQueue q .stopped else (s.handBack q c).followLink q c.head :=
  if_neg (by rw [mustWait_room room]; exact nofun)

/-! ### A message to one station -/

theorem toOne_left (one : c.toOne p) : c.left = 0 := by
  obtain ⟨dest, current, -, -⟩ := one
  simp only [Context.left, Context.destCount, dest, current]

theorem toOne_ended (one : c.toOne p) (o : Outcome) : (c.ended o).settledOutcome = o ∧ (c.ended o).perDest = none := by
  obtain ⟨dest, current, single, unsettled⟩ := one
  have outcomes : (c.ended o).outcomes = [o] := by
    obtain ⟨x, hx⟩ := List.length_eq_one_iff.mp single
    change c.outcomes.set (c.current - 1) o = [o]
    rw [hx, current]
    rfl
  exact ⟨by rw [settledOutcome_one (c := c.ended o) dest unsettled, outcomes]; rfl, perDest_one (c := c.ended o) dest⟩

/-! ### The hand-back -/

section
variable {stopping : Bool} {o : Outcome} (last : stopping = true ∨ o = .stopped ∨ c.left = 0) (room : s.log.length < 64)
include last room

theorem endStep_settles : s.endStep q c stopping o =
    if stopping = true then ((s.stepLeft q c).handBack q (c.ended o)).setQueue q .stopped
    else ((s.stepLeft q c).handBack q (c.ended o)).followLink q c.head := by
  rw [endStep_last last, settle_room (by rwa [stepLeft_log])]
  rfl

/-- R58, R71: the descriptor of a message whose last step is decided. -/
theorem endStep_desc : (s.endStep q c stopping o).desc c.head = { s.desc c.head with
    armed := false, holder := none, outcome := some (c.ended o).settledOutcome, attempts := c.attempts, late := c.late,
    perDest := (c.ended o).perDest } := by
  have handed := (handBack_desc (s.stepLeft q c) q (c.ended o) c.head).trans (if_pos rfl)
  rw [stepLeft_desc] at handed
  rw [endStep_settles last room]
  split
  · exact handed
  · refine ((followLink_leaves _ q c.head).disarmed c.head ?_).trans handed
    rw [handed]

/-- R145 to R147: its record, where one is required. -/
theorem endStep_log (required : s.recordRequired q (c.ended o) = true) :
    (s.endStep q c stopping o).log.take (s.log.length + 1) = s.log ++ [(c.ended o).completion q] := by
  have recorded : ((s.stepLeft q c).handBack q (c.ended o)).log = s.log ++ [(c.ended o).completion q] := by
    have still : (s.stepLeft q c).recordRequired q (c.ended o) = true := by rw [stepLeft_only]; exact required
    rw [handBack_log, if_pos still, stepLeft_log]
  have whole : (s.log ++ [(c.ended o).completion q]).take (s.log.length + 1) = s.log ++ [(c.ended o).completion q] :=
    List.take_of_length_le (by rw [List.length_append]; exact Nat.le_refl _)
  rw [endStep_settles last room]
  split
  · refine (congrArg (List.take _) recorded).trans whole
  · obtain ⟨more, hmore⟩ := (followLink_leaves ((s.stepLeft q c).handBack q (c.ended o)) q c.head).log
    rw [← hmore, recorded, List.take_append_of_le_length (by rw [List.length_append]; exact Nat.le_refl _), whole]

end

section
variable {o : Outcome} (room : s.log.length < 64)
include room

/-- R74, R101, R102: a stopping queue whose step is decided. -/
theorem endStep_stopping : (s.endStep q c true o).queue q = .stopped ∧
    (∀ d, d ≠ c.head → (s.endStep q c true o).desc d = s.desc d) ∧
    (s.endStep q c true o).attention = s.attention ∧
    (s.recordRequired q (c.ended o) = true → (s.endStep q c true o).log = s.log ++ [(c.ended o).completion q]) := by
  have settles := endStep_settles (q := q) (c := c) (stopping := true) (o := o) (.inl rfl) room
  rw [if_pos rfl] at settles
  rw [settles]
  refine ⟨(setQueue_queue ..).trans (if_pos rfl), fun d hd => ?_, ?_, fun required => ?_⟩
  · refine (handBack_desc ..).trans ((if_neg (Ne.symm hd)).trans (stepLeft_desc ..))
  · refine Eq.trans ?_ (stepLeft_attention s q c)
    unfold State.handBack
    split <;> rfl
  · have still : (s.stepLeft q c).recordRequired q (c.ended o) = true := by rw [stepLeft_only]; exact required
    refine (handBack_log ..).trans ?_
    rw [if_pos still, stepLeft_log]

end

section
variable {o : Outcome} (one : c.toOne p) (room : s.log.length < 64)
include one

theorem completion_toOne : (c.ended o).completion q =
    { queue := q, descriptor := c.head, outcome := o, attempts := c.attempts, late := c.late, perDest := none } := by
  obtain ⟨outcome, list⟩ := toOne_ended one o
  rw [Context.completion, outcome, list]
  rfl

theorem recordRequired_toOne (extraordinary : o.ordinary = false) : s.recordRequired q (c.ended o) = true :=
  recordRequired_of_extraordinary (by rw [(toOne_ended one o).1]; exact extraordinary)

include room

/-- R71, R95: a message to one station whose step is decided is handed back so. -/
theorem endStep_toOne_desc (stopping : Bool) :
    (s.endStep q c stopping o).desc c.head = (s.desc c.head).handedBack c o c.late := by
  obtain ⟨outcome, list⟩ := toOne_ended one o
  rw [endStep_desc (.inr (.inr (toOne_left one))) room, outcome, list]
  rfl

theorem endStep_toOne_log (extraordinary : o.ordinary = false) (stopping : Bool) :
    (s.endStep q c stopping o).log.take (s.log.length + 1) = s.log ++
      [{ queue := q, descriptor := c.head, outcome := o, attempts := c.attempts, late := c.late, perDest := none }] := by
  rw [endStep_log (.inr (.inr (toOne_left one))) room (recordRequired_toOne one extraordinary), completion_toOne one]

end

end

/-! ### What is exchanged with a watched step -/

section
variable {s : State} {f : Frame} {line : List Character} {w : Watch}

/-- R14, R17: the end of another station's valid frame while a reply watch is open and nothing is being sent. -/
theorem exec_validFrameEnd_watched (hj : judge line = some f) (hsrc : f.src ≠ s.own) (hend : s.canEnd)
    (hs : s.settings.isSome = true) (transmission : s.trunk.transmission = none)
    (leave : s.claim.leaveDeferred = false) (watch : s.trunk.watch = some w) : ∃ u, HeardAs s f u ∧
      exec (.validFrameEnd line) s =
        .next (((u.arrival f (decide (s.claim.state = .active))).creditHeard f false).closeWatch
          (w.answer s.own f)) := by
  have heard := heardBy_as (f := f) hsrc leave line
  have arrived := arrival_exchanges (s.heardBy line f) f (decide (s.claim.state = .active))
  have credited := creditHeard_exchanges ((s.heardBy line f).arrival f (decide (s.claim.state = .active))) f false
  have own : (((s.heardBy line f).arrival f (decide (s.claim.state = .active))).creditHeard f false).own = s.own :=
    ((creditHeard_station _ f false).own.trans (arrival_station _ f _).own).trans heard.own
  refine ⟨_, heard, (exec_validFrameEnd_heard hj hsrc hend hs (ownFrame_of_none transmission)).trans ?_⟩
  have judged : ((((s.heardBy line f).arrival f (decide (s.claim.state = .active))).creditHeard f false).judgeWatch f) =
      (((s.heardBy line f).arrival f (decide (s.claim.state = .active))).creditHeard f false).closeWatch
        (w.answer s.own f) := by
    unfold State.judgeWatch
    rw [credited, arrived.1, heard.exchanges.1, watch, own]
  have idle := congrArg (fun x : State => x.trunk.transmission) judged
  rw [closeWatch_trunk, credited, arrived.2, heard.exchanges.2, transmission] at idle
  exact congrArg Host.Outcome.next ((finding_of_none idle true).trans judged)

/-- R17, R85: such an end of a REPLY. -/
theorem exec_validFrameEnd_reply {code : Octet} {last : Seq} {fresh : Bool} {offer : Offer}
    (hj : judge line = some f) (body : f.body = .reply code last fresh offer) (hsrc : f.src ≠ s.own) (hend : s.canEnd)
    (hs : s.settings.isSome = true) (transmission : s.trunk.transmission = none)
    (leave : s.claim.leaveDeferred = false) (watch : s.trunk.watch = some w) : ∃ u, HeardAs s f u ∧
      exec (.validFrameEnd line) s = .next (u.closeWatch (w.answer s.own f)) := by
  obtain ⟨u, heard, hexec⟩ := exec_validFrameEnd_watched hj hsrc hend hs transmission leave watch
  rw [arrival_silent _ (.inr ⟨code, last, fresh, offer, body⟩),
    creditHeard_of_not_credit (by rw [body]; exact fun _ => nofun)] at hexec
  exact ⟨u, heard, hexec⟩

end

end Sys2Proof.Machine
end

section
/-!
PROOFS. The replies that the watch takes: what they make of the pair record, the step and its message (R17, R85 to R90,
R93 to R95, R98, R101, R123, Tables 1-4 and 5-1).
-/

namespace Sys2Proof.Machine

/-! ### Reply codes -/

theorem replyCodeOf_toOctet (code : ReplyCode) : replyCodeOf code.toOctet = some code := by cases code <;> rfl

theorem toOctet_le_two (rc : ReplyCode) : rc.toOctet.toNat ≤ 2 ↔ rc = .accepted ∨ rc = .duplicate := by
  cases rc <;> decide

theorem toOctet_eq_seven (rc : ReplyCode) : rc.toOctet.toNat = 7 ↔ rc = .stepState := by cases rc <;> decide

section
variable {w : Watch} {own : Station} {f : Frame} {code : Octet} {last : Seq} {fresh : Bool} {offer : Offer}

/-- R17, R85: the watch takes the matching REPLY. -/
theorem answer_reply {rc : ReplyCode} (body : f.body = .reply code last fresh offer) (src : f.src = w.station)
    (dst : f.dst = some own) (named : code = rc.toOctet) (fits : rc.fits w.frame = true) :
    w.answer own f = some (rc, { last, fresh, offer }) := by
  unfold Watch.answer
  rw [body]
  dsimp only
  rw [if_pos ⟨src, dst⟩, named, replyCodeOf_toOctet]
  exact if_pos fits

theorem octet_of_code {n : Nat} (h : code.toNat = n) : code = BitVec.ofNat 8 n := by
  rw [← h, BitVec.ofNat_toNat]
  exact (BitVec.setWidth_eq code).symm

/-- Tables 1-4 and 5-1: the codes that answer a DATA and a STEP. -/
theorem code_cases (fits : (w.frame = .data ∧ 1 ≤ code.toNat ∧ code.toNat ≤ 6) ∨ (w.frame = .step ∧ code.toNat = 7)) :
    ∃ rc : ReplyCode, code = rc.toOctet ∧ rc.fits w.frame = true ∧
      rc ∈ [.accepted, .duplicate, .full, .tooLong, .closed, .outOfStep, .stepState] := by
  rcases fits with ⟨data, low, high⟩ | ⟨step, seven⟩
  · rw [data]
    obtain h | h | h | h | h | h : code.toNat = 1 ∨ code.toNat = 2 ∨ code.toNat = 3 ∨ code.toNat = 4 ∨
        code.toNat = 5 ∨ code.toNat = 6 := by omega
    · exact ⟨.accepted, octet_of_code h, rfl, by decide⟩
    · exact ⟨.duplicate, octet_of_code h, rfl, by decide⟩
    · exact ⟨.full, octet_of_code h, rfl, by decide⟩
    · exact ⟨.tooLong, octet_of_code h, rfl, by decide⟩
    · exact ⟨.closed, octet_of_code h, rfl, by decide⟩
    · exact ⟨.outOfStep, octet_of_code h, rfl, by decide⟩
  · rw [step]
    exact ⟨.stepState, octet_of_code seven, rfl, by decide⟩

end

/-! ### The step that a watch stands for -/

section
variable (s : State) (f : Frame) (c : Context)

/-- R99: a restart touches two counts of a step under way. -/
theorem stepHeard_only : s.stepHeard f c = { c with
    unconfirmed := (s.stepHeard f c).unconfirmed, stepAttempts := (s.stepHeard f c).stepAttempts } := by
  unfold State.stepHeard
  split <;> rfl

theorem stepHeard_pair : (s.stepHeard f c).pair = c.pair := by
  rw [stepHeard_only]
  rfl

theorem stepHeard_toOne {p : Station} (one : c.toOne p) : (s.stepHeard f c).toOne p := by
  rw [stepHeard_only]
  exact one

theorem pairHeard_anchor (p : Station) (i : InboxIx) : (s.pairHeard f p i).anchor = (s.sendPair p i).anchor := by
  unfold State.pairHeard
  split <;> rfl

end

/-- The state in which a reply watch has closed. -/
def State.unwatched (s : State) : State := s.setTrunk { s.trunk with watch := none }

section
variable {s : State} {w : Watch} {c : Context}

theorem inFlight_cases {st : QueueState} (unsettled : c.outcome = none) (h : st = .running c ∨ st = .stopping c) :
    ∃ stopping, st.inFlight = some (c, stopping) ∧ (st = .running c → stopping = false) ∧
      (st = .stopping c → stopping = true) := by
  rcases h with rfl | rfl
  · exact ⟨false, rfl, fun _ => rfl, nofun⟩
  · refine ⟨true, ?_, nofun, fun _ => rfl⟩
    simp [QueueState.inFlight, unsettled]

theorem closeWatch_reply {stopping : Bool} {code : ReplyCode} {fields : ReplyFields} (watch : s.trunk.watch = some w)
    (flight : (s.queue w.queue).inFlight = some (c, stopping)) :
    s.closeWatch (some (code, fields)) = s.unwatched.replyTaken w.queue c stopping code fields := by
  unfold State.closeWatch
  rw [watch]
  dsimp only
  rw [show (s.setTrunk { s.trunk with watch := none }).queue w.queue = s.queue w.queue from rfl, flight]
  rfl

end

/-! ### The record of the step's pair -/

/-- The state `t` is `s` with the record and the hint of one pair moved. -/
structure PairMoved (s t : State) (p : Station) (i : InboxIx) (anchor : Seq) (hint : Option Offer) : Prop where
  blind : (t.sendPair p i).blind = 0
  anchor : (t.sendPair p i).anchor = anchor
  hint : t.hint p i = hint
  others : ∀ (r : Station) (j : InboxIx), (r, j) ≠ (p, i) → t.hint r j = s.hint r j ∧
    (t.sendPair r j).anchor = (s.sendPair r j).anchor ∧ (t.sendPair r j).blind = (s.sendPair r j).blind

section
variable {s t u : State} {p : Station} {i : InboxIx} {anchor : Seq} {hint : Option Offer} {r : SendPair}

theorem PairMoved.trans (h : PairMoved s t p i anchor hint) (k : PairsKept t u) : PairMoved s u p i anchor hint where
  blind := (k.blind p i).trans h.blind
  anchor := (k.anchor p i).trans h.anchor
  hint := (k.hint p i).trans h.hint
  others r j other := by
    obtain ⟨hint, anchor, blind⟩ := h.others r j other
    exact ⟨(k.hint r j).trans hint, (k.anchor r j).trans anchor, (k.blind r j).trans blind⟩

theorem PairMoved.record (blind : r.blind = 0) : PairMoved s (s.setSendPair p i r) p i r.anchor (s.hint p i) where
  blind := by rw [setSendPair_sendPair, if_pos ⟨rfl, rfl⟩, blind]
  anchor := by rw [setSendPair_sendPair, if_pos ⟨rfl, rfl⟩]
  hint := setSendPair_hint ..
  others q j other := by
    rw [setSendPair_hint, setSendPair_sendPair, if_neg fun same => other (by rw [← same.1, ← same.2])]
    exact ⟨rfl, rfl, rfl⟩

theorem PairMoved.setHint (h : PairMoved s t p i anchor hint) (offer : Option Offer) :
    PairMoved s (t.setHint p i offer) p i anchor offer where
  blind := by rw [setHint_sendPair]; exact h.blind
  anchor := by rw [setHint_sendPair]; exact h.anchor
  hint := by rw [setHint_hint, if_pos ⟨rfl, rfl⟩]
  others r j other := by
    rw [setHint_hint, setHint_sendPair, if_neg fun same => other (by rw [← same.1, ← same.2])]
    exact h.others r j other

end

/-! ### Each code -/

section
variable {s : State} {q : QueueIx} {c : Context} {stopping : Bool} {p : Station} {i : InboxIx} {fl : ReplyFields}

/-- R86: the context after re-anchoring. -/
def Context.reanchored (c : Context) (r : SendPair) (fl : ReplyFields) : Context :=
  { c.addLate (r.discovered fl) with unconfirmed := false, seqSent := none }

theorem endStep_confirmed {o : Outcome} (confirmed : c.unconfirmed = false) : PairsKept s (s.endStep q c stopping o) := by
  have kept := PairsKept.endStep (s := s) (q := q) c stopping o
  rwa [raiseBlind_confirmed confirmed] at kept

/-- R86, R87, R90, R93: the pair's record and hint by the code of a reply. -/
theorem replyTaken_pairs {rc : ReplyCode} (pair : c.pair = some (p, i))
    (code : rc ∈ [.accepted, .duplicate, .full, .tooLong, .closed, .outOfStep, .stepState]) :
    PairMoved s (s.replyTaken q c stopping rc fl) p i
      (if rc = .accepted ∨ rc = .duplicate then c.seqSent.getD (s.sendPair p i).anchor
        else if fl.fresh then (s.sendPair p i).anchor else fl.last)
      (if rc = .stepState then s.hint p i else some fl.offer) := by
  have reanchored : PairMoved s (s.setSendPair p i ((s.sendPair p i).reanchored fl)) p i
      (if fl.fresh then (s.sendPair p i).anchor else fl.last) (s.hint p i) := .record rfl
  have delivered : PairMoved s (s.dataDelivered q c stopping p i fl) p i
      (c.seqSent.getD (s.sendPair p i).anchor) (some fl.offer) :=
    ((PairMoved.record rfl).setHint _).trans (endStep_confirmed rfl)
  have refused (o : Outcome) : PairMoved s (s.dataRefused q c stopping p i fl o) p i
      (if fl.fresh then (s.sendPair p i).anchor else fl.last) (some fl.offer) :=
    (reanchored.setHint _).trans (endStep_confirmed rfl)
  have full : PairMoved s (s.dataFull q c stopping p i fl) p i
      (if fl.fresh then (s.sendPair p i).anchor else fl.last) (some fl.offer) := by
    refine (reanchored.setHint _).trans ?_
    unfold State.dataFull
    dsimp only [State.reanchor]
    split
    · exact endStep_confirmed rfl
    · split
      · exact endStep_confirmed rfl
      · exact .setQueue _
  have outOfStep : PairMoved s (s.dataOutOfStep q c stopping p i fl) p i
      (if fl.fresh then (s.sendPair p i).anchor else fl.last) (some fl.offer) := by
    refine (reanchored.setHint _).trans ?_
    unfold State.dataOutOfStep
    dsimp only [State.reanchor]
    split
    · exact endStep_confirmed rfl
    · exact .continueStep _
  have stepState : PairMoved s (s.stepState q c stopping p i fl) p i
      (if fl.fresh then (s.sendPair p i).anchor else fl.last) (s.hint p i) := by
    refine reanchored.trans ?_
    unfold State.stepState
    dsimp only [State.reanchor]
    split
    · exact endStep_confirmed rfl
    · exact .continueStep _
  simp only [List.mem_cons, List.not_mem_nil, or_false] at code
  unfold State.replyTaken
  rw [pair]
  rcases code with rfl | rfl | rfl | rfl | rfl | rfl | rfl
  · exact delivered
  · exact delivered
  · exact full
  · exact refused _
  · exact refused _
  · exact outOfStep
  · exact stepState

end

section
variable {s : State} {f : Frame} {line : List Character} {code : Octet} {last : Seq} {fresh : Bool} {offer : Offer}
  {c : Context} {w : Watch}

/-- R17, R85: the end of a REPLY that answers the attempt, as the step under way takes it. -/
theorem exec_validFrameEnd_taken {rc : ReplyCode} (hj : judge line = some f)
    (body : f.body = .reply code last fresh offer) (src : f.src = w.station) (dst : f.dst = some s.own)
    (hsrc : f.src ≠ s.own) (hend : s.canEnd) (hs : s.settings.isSome = true)
    (transmission : s.trunk.transmission = none) (leave : s.claim.leaveDeferred = false)
    (watch : s.trunk.watch = some w) (named : code = rc.toOctet) (fits : rc.fits w.frame = true)
    (busy : s.queue w.queue = .running c ∨ s.queue w.queue = .stopping c) (unsettled : c.outcome = none) :
    ∃ (u : State) (stopping : Bool), HeardAs s f u ∧ (s.queue w.queue = .running c → stopping = false) ∧
      (s.queue w.queue = .stopping c → stopping = true) ∧
      exec (.validFrameEnd line) s = .next (u.unwatched.replyTaken w.queue (s.stepHeard f c) stopping rc
        { last, fresh, offer }) := by
  obtain ⟨u, heard, hexec⟩ := exec_validFrameEnd_reply hj body hsrc hend hs transmission leave watch
  rw [answer_reply body src dst named fits] at hexec
  have still : (s.stepHeard f c).outcome = none := by rw [stepHeard_only]; exact unsettled
  have now : u.queue w.queue = .running (s.stepHeard f c) ∨ u.queue w.queue = .stopping (s.stepHeard f c) := by
    rw [heard.queue]
    exact busy.imp (fun h => by rw [h]; rfl) fun h => by rw [h]; rfl
  obtain ⟨stopping, flight, running, stopped⟩ := inFlight_cases still now
  rw [closeWatch_reply (heard.exchanges.1.trans watch) flight] at hexec
  refine ⟨u, stopping, heard, fun h => running ?_, fun h => stopped ?_, hexec⟩
  · rw [heard.queue, h]; rfl
  · rw [heard.queue, h]; rfl

end

/-- Settles O47. -/
theorem repliesMoveThePairRecord : Obligations.RepliesMoveThePairRecord := by
  unfold Obligations.RepliesMoveThePairRecord
  intro line f code last fresh offer q c p i w s hj body src dst hsrc hend hs transmission leave watch hq station fits busy
    pair unsettled
  subst src hq
  obtain ⟨rc, named, answers, known⟩ := code_cases fits
  obtain ⟨u, stopping, heard, -, -, hexec⟩ := exec_validFrameEnd_taken hj body station.symm dst hsrc hend hs transmission
    leave watch named answers busy unsettled
  have kept := replyTaken_keeps u.unwatched w.queue (s.stepHeard f c) stopping rc { last, fresh, offer }
  have moved := replyTaken_pairs (s := u.unwatched) (q := w.queue) (stopping := stopping)
    (fl := { last, fresh, offer }) ((stepHeard_pair s f c).trans pair) known
  have pairs (r : Station) (j : InboxIx) : u.unwatched.sendPair r j = s.pairHeard f r j := heard.sendPair r j
  have hints (r : Station) (j : InboxIx) : u.unwatched.hint r j = s.hintHeard f r j := heard.hint r j
  have early : code.toNat ≤ 2 ↔ rc = .accepted ∨ rc = .duplicate := by rw [named]; exact toOctet_le_two rc
  have seven : code.toNat = 7 ↔ rc = .stepState := by rw [named]; exact toOctet_eq_seven rc
  have sent : (s.stepHeard f c).seqSent = c.seqSent := by rw [stepHeard_only]
  refine ⟨_, hexec, by rw [kept.trunk]; rfl, moved.blind, ?_, ?_, fun r j other => ?_, kept.memory.trans heard.memory,
    kept.inboxes.trans heard.inboxes, kept.counters.trans heard.counters⟩
  · rw [moved.anchor, pairs, pairHeard_anchor, sent]
    simp only [early]
  · rw [moved.hint, hints]
    simp only [seven]
  · obtain ⟨hint, anchor, blind⟩ := moved.others r j other
    exact ⟨hint.trans (hints r j), anchor.trans ((congrArg SendPair.anchor (pairs r j)).trans (pairHeard_anchor ..)),
      blind.trans (congrArg SendPair.blind (pairs r j))⟩

end Sys2Proof.Machine
end

section
/-!
PROOFS. The replies that leave a step under way, or decide it with another outcome than DELIVERED (R86, R88 to R90, R93
to R95, R123, R124).
-/

namespace Sys2Proof.Machine

/-! ### Re-anchoring -/

/-- R86: the blind messages found delivered. -/
theorem discovered_eq (r : SendPair) (fl : ReplyFields) : r.discovered fl = r.found fl.last fl.fresh := by
  have distance : (fl.last - r.anchor).val = (fl.last.val + 16 - r.anchor.val) % 16 := by
    rw [Fin.val_sub]
    exact congrArg (· % 16) (by omega)
  unfold SendPair.discovered SendPair.found
  rw [distance]
  cases fl.fresh with
  | true => rfl
  | false =>
    rw [if_neg Bool.false_ne_true]
    simp only [true_and]

/-- R86, R93, R94: the context of a step that goes on after a reply. -/
theorem reanchored_heard (s : State) (f : Frame) (c : Context) (r : SendPair) (fl : ReplyFields) :
    { (s.stepHeard f c).reanchored r fl with stepAttempts := 0 } =
      { c with late := min 3 (c.late + r.found fl.last fl.fresh), unconfirmed := false, seqSent := none,
               stepAttempts := 0 } := by
  rw [stepHeard_only, ← discovered_eq]
  rfl

section
variable {s : State} {q : QueueIx} {c : Context} {p : Station} {i : InboxIx} {fl : ReplyFields}

/-- R81, R124: the queue of a MESSAGE step that goes on. -/
theorem continueStep_queue (pair : c.pair = some (p, i)) : (s.continueStep q c).queue q =
    if s.hint p i = some 0 then .held { c with hold := some s.holdTicks } else .running c := by
  unfold State.continueStep
  rw [pair]
  dsimp only
  unfold State.readHint
  split <;> exact (setQueue_queue ..).trans (if_pos rfl)

/-- The pair's record re-anchored, and the hint that the reply gives. -/
def State.anchored (s : State) (p : Station) (i : InboxIx) (fl : ReplyFields) : State :=
  s.setSendPair p i ((s.sendPair p i).reanchored fl)

theorem replyTaken_outOfStep (pair : c.pair = some (p, i)) : s.replyTaken q c false .outOfStep fl =
    ((s.anchored p i fl).setHint p i (some fl.offer)).continueStep q
      { c.reanchored (s.sendPair p i) fl with stepAttempts := 0 } := by
  simp only [State.replyTaken, pair]
  rfl

theorem replyTaken_stepState (pair : c.pair = some (p, i)) : s.replyTaken q c false .stepState fl =
    (s.anchored p i fl).continueStep q { c.reanchored (s.sendPair p i) fl with stepAttempts := 0 } := by
  simp only [State.replyTaken, pair]
  rfl

/-- R89, R123: the context of a step that was FULL. -/
def Context.counted (c : Context) : Context :=
  { c with stepAttempts := 0, fullCount := satAdd attemptLimit c.fullCount 1 }

theorem replyTaken_full (pair : c.pair = some (p, i)) : s.replyTaken q c false .full fl =
    if s.patienceSpent (satAdd attemptLimit c.fullCount 1) = true
    then ((s.anchored p i fl).setHint p i (some fl.offer)).endStep q (c.reanchored (s.sendPair p i) fl).counted false
      .refusedFull
    else ((s.anchored p i fl).setHint p i (some fl.offer)).setQueue q
      (.held { (c.reanchored (s.sendPair p i) fl).counted with hold := some s.holdTicks }) := by
  simp only [State.replyTaken, pair]
  rfl

theorem replyTaken_tooLong (pair : c.pair = some (p, i)) (stopping : Bool) : s.replyTaken q c stopping .tooLong fl =
    ((s.anchored p i fl).setHint p i (some fl.offer)).endStep q (c.reanchored (s.sendPair p i) fl) stopping .tooLong := by
  simp only [State.replyTaken, pair]
  rfl

theorem replyTaken_closed (pair : c.pair = some (p, i)) (stopping : Bool) : s.replyTaken q c stopping .closed fl =
    ((s.anchored p i fl).setHint p i (some fl.offer)).endStep q (c.reanchored (s.sendPair p i) fl) stopping .closed := by
  simp only [State.replyTaken, pair]
  rfl

theorem patienceSpent_iff (count : Nat) : s.patienceSpent count = true ↔ 1 ≤ s.patience ∧ s.patience ≤ count := by
  rw [State.patienceSpent, Bool.and_eq_true, decide_eq_true_eq, decide_eq_true_eq]

end

/-! ### The constants of a state in which a frame has been heard -/

section
variable {s u : State} {f : Frame} (heard : HeardAs s f u)
include heard

theorem HeardAs.holdTicks : u.holdTicks = s.holdTicks := by
  simp only [State.holdTicks, heard.settings, heard.straps]

theorem HeardAs.patience : u.patience = s.patience := by
  simp only [State.patience, heard.settings]

theorem HeardAs.retryLimit : u.retryLimit = s.retryLimit := by
  simp only [State.retryLimit, heard.settings]

theorem HeardAs.desc (d : DescIx) : u.desc d = s.desc d := by
  simp only [State.desc, heard.store]

end

/-- Settles O48. -/
theorem repliesThatLeaveTheStepUnderWay : Obligations.RepliesThatLeaveTheStepUnderWay := by
  unfold Obligations.RepliesThatLeaveTheStepUnderWay
  intro line f code last fresh offer q c p i w s hj body src dst hsrc hend hs transmission leave watch hq station running
    pair late c' full spent
  subst src hq
  obtain ⟨u, heard, hexec⟩ := exec_validFrameEnd_reply hj body hsrc hend hs transmission leave watch
  have flight : (u.queue w.queue).inFlight = some (s.stepHeard f c, false) := by
    rw [heard.queue, running]
    rfl
  have taken {rc : ReplyCode} (named : code = rc.toOctet) (fits : rc.fits w.frame = true) :
      u.closeWatch (w.answer s.own f) = u.unwatched.replyTaken w.queue (s.stepHeard f c) false rc
        { last, fresh, offer } := by
    rw [answer_reply body station.symm dst named fits]
    exact closeWatch_reply (heard.exchanges.1.trans watch) flight
  have step := (stepHeard_pair s f c).trans pair
  have record : u.unwatched.sendPair f.src i = s.pairHeard f f.src i := heard.sendPair f.src i
  have goesOn : { (s.stepHeard f c).reanchored (u.unwatched.sendPair f.src i) { last, fresh, offer } with
      stepAttempts := 0 } = c' := by
    rw [record]
    exact reanchored_heard ..
  have going : c'.pair = some (f.src, i) := pair
  have counted : ((s.stepHeard f c).reanchored (u.unwatched.sendPair f.src i) { last, fresh, offer }).counted = full := by
    have fullCount : (s.stepHeard f c).fullCount = c.fullCount := by rw [stepHeard_only]
    calc ((s.stepHeard f c).reanchored (u.unwatched.sendPair f.src i) { last, fresh, offer }).counted
        = { { (s.stepHeard f c).reanchored (u.unwatched.sendPair f.src i) { last, fresh, offer } with
              stepAttempts := 0 } with fullCount := min 255 ((s.stepHeard f c).fullCount + 1) } := rfl
      _ = full := by rw [goesOn, fullCount]
  have ticks : u.holdTicks = s.holdTicks := heard.holdTicks
  have patience : u.unwatched.patienceSpent (satAdd attemptLimit (s.stepHeard f c).fullCount 1) = true ↔ spent := by
    have fullCount : (s.stepHeard f c).fullCount = c.fullCount := by rw [stepHeard_only]
    rw [patienceSpent_iff, fullCount, show u.unwatched.patience = s.patience from heard.patience]
    rfl
  refine ⟨_, hexec, fun data six => ?_, fun step' seven => ?_, fun data three more => ?_,
    fun o data decided one room => ?_⟩
  · have hint : ((u.unwatched.anchored f.src i { last, fresh, offer }).setHint f.src i (some offer)).hint f.src i =
        some offer := by rw [setHint_hint, if_pos ⟨rfl, rfl⟩]
    rw [taken (rc := .outOfStep) (octet_of_code six) (by rw [data]; rfl), replyTaken_outOfStep step, goesOn,
      continueStep_queue going, hint]
    simp only [Option.some.injEq]
    rw [← ticks]
    rfl
  · have hint : (u.unwatched.anchored f.src i { last, fresh, offer }).hint f.src i = s.hintHeard f f.src i :=
      (setSendPair_hint ..).trans (heard.hint f.src i)
    rw [taken (rc := .stepState) (octet_of_code seven) (by rw [step']; rfl), replyTaken_stepState step, goesOn,
      continueStep_queue going, hint, ← ticks]
    rfl
  · rw [taken (rc := .full) (octet_of_code three) (by rw [data]; rfl), replyTaken_full step,
      if_neg (mt patience.mp more), counted, ← ticks]
    exact (setQueue_queue ..).trans (if_pos rfl)
  · have ends {x : State} {c1 : Context} (closes : u.closeWatch (w.answer s.own f) = x.endStep w.queue c1 false o)
        (only : x.store = u.store ∧ x.log = u.log)
        (same : c1.head = c.head ∧ c1.attempts = c.attempts ∧ c1.late = late) (single : c1.toOne f.src)
        (extraordinary : o.ordinary = false) :
        (u.closeWatch (w.answer s.own f)).desc c.head = (s.desc c.head).handedBack c o late ∧
        (u.closeWatch (w.answer s.own f)).log.take (s.log.length + 1) = s.log ++
          [{ queue := w.queue, descriptor := c.head, outcome := o, attempts := c.attempts, late := late,
             perDest := none }] := by
      obtain ⟨head, attempts, lates⟩ := same
      have log : x.log = s.log := only.2.trans heard.log
      have desc : x.desc c.head = s.desc c.head := by
        rw [← heard.desc]
        simp only [State.desc, only.1]
      have handed := endStep_toOne_desc (s := x) (q := w.queue) (o := o) single (by rwa [log]) false
      have recorded := endStep_toOne_log (s := x) (q := w.queue) single (by rwa [log]) extraordinary false
      rw [head, desc, lates] at handed
      rw [head, log, attempts, lates] at recorded
      rw [closes]
      refine ⟨handed.trans ?_, recorded⟩
      rw [Descriptor.handedBack, attempts]
      rfl
    have headHeard : (s.stepHeard f c).head = c.head ∧ (s.stepHeard f c).attempts = c.attempts := by
      rw [stepHeard_only]
      exact ⟨rfl, rfl⟩
    have lateHeard : ((s.stepHeard f c).reanchored (u.unwatched.sendPair f.src i) { last, fresh, offer }).late = late :=
      congrArg Context.late goesOn
    have single := stepHeard_toOne s f c one
    rcases decided with ⟨three, patient, rfl⟩ | ⟨four, rfl⟩ | ⟨five, rfl⟩
    · have closes := taken (rc := .full) (octet_of_code three) (by rw [data]; rfl)
      rw [replyTaken_full step, if_pos (patience.mpr patient)] at closes
      exact ends closes ⟨rfl, rfl⟩ ⟨headHeard.1, headHeard.2, lateHeard⟩ single rfl
    · have closes := taken (rc := .tooLong) (octet_of_code four) (by rw [data]; rfl)
      rw [replyTaken_tooLong step] at closes
      exact ends closes ⟨rfl, rfl⟩ ⟨headHeard.1, headHeard.2, lateHeard⟩ single rfl
    · have closes := taken (rc := .closed) (octet_of_code five) (by rw [data]; rfl)
      rw [replyTaken_closed step] at closes
      exact ends closes ⟨rfl, rfl⟩ ⟨headHeard.1, headHeard.2, lateHeard⟩ single rfl

end Sys2Proof.Machine
end

section
/-!
PROOFS. QUEUE_STOP, and how a stopping queue's message ends (R73 to R75, R92, R101, R102).
-/

namespace Sys2Proof.Machine

/-! ### An attempt that is not answered (R91, R92) -/

/-- R91: the context of a step whose attempt is not answered. -/
def Context.unanswered (c : Context) (g : QueueFrame) : Context :=
  { c with unconfirmed := c.unconfirmed || decide (g = .data), seqSent := none }

theorem unanswered_unconfirmed (c : Context) (g : QueueFrame) :
    (c.unanswered g).unconfirmed = true ↔ c.unconfirmed = true ∨ g = .data := by
  simp [Context.unanswered]

/-- R17, R167: the state in which a reply watch has closed with NO_REPLY. -/
def State.missed (s : State) : State := s.unwatched.countNoReply

section
variable {s : State} {q : QueueIx} {c : Context} {w : Watch} {stopping : Bool}

theorem noReply_eq (s : State) (q : QueueIx) (c : Context) (stopping : Bool) (g : QueueFrame) :
    s.noReply q c stopping g =
      if s.retryLimit < c.stepAttempts then s.endStep q (c.unanswered g) stopping .noReply
      else if stopping = true then s.endStep q (c.unanswered g) true .stopped
      else s.continueStep q (c.unanswered g) := rfl

theorem missed_eq (hs : s.settings.isSome = true) : s.missed = { s with
    trunk := { s.trunk with watch := none },
    counters := { s.counters with noReply := min 65535 (s.counters.noReply + 1) } } := countNoReply_eq hs

theorem closeWatch_unanswered (watch : s.trunk.watch = some w)
    (flight : (s.queue w.queue).inFlight = some (c, stopping)) :
    s.closeWatch none = s.missed.noReply w.queue c stopping w.frame := by
  have still : (s.setTrunk { s.trunk with watch := none }).countNoReply.queue w.queue = s.queue w.queue := by
    simp only [State.queue, countNoReply_queues]
    rfl
  unfold State.closeWatch
  rw [watch]
  dsimp only
  rw [still, flight]
  rfl

theorem exec_replyWatchTimeout (idle : s.trunk.line = .idle) :
    exec .replyWatchTimeout s = .next (s.closeWatch none) := congrArg Host.Outcome.next (if_pos idle)

end

/-! ### A stopping queue -/

section
variable {s u : State} {q : QueueIx} {c : Context} {p : Station} {i : InboxIx}

/-- R101, R102: the queue has stopped, and its message to one station is handed back, nothing else of the store
changing. -/
structure StoppedWith (s u : State) (q : QueueIx) (c : Context) (o : Outcome) (late : Nat) : Prop where
  queue : u.queue q = .stopped
  handed : u.desc c.head = (s.desc c.head).handedBack c o late
  others : ∀ d, d ≠ c.head → u.desc d = s.desc d

theorem endStep_stoppedWith (one : c.toOne p) (room : s.log.length < 64) (o : Outcome) :
    StoppedWith s (s.endStep q c true o) q c o c.late :=
  have stops := endStep_stopping (q := q) (c := c) (o := o) room
  ⟨stops.1, endStep_toOne_desc one room true, stops.2.1⟩

/-- The same of a state and a context that differ in what a hand-back does not read. -/
theorem StoppedWith.of {x : State} {c1 : Context} {o : Outcome} {late : Nat} (h : StoppedWith x u q c1 o late)
    (store : x.store = s.store) (head : c1.head = c.head) (attempts : c1.attempts = c.attempts) :
    StoppedWith s u q c o late := by
  have desc (d : DescIx) : x.desc d = s.desc d := by simp only [State.desc, store]
  refine ⟨h.queue, ?_, fun d hd => (h.others d (by rwa [head])).trans (desc d)⟩
  rw [← head, h.handed, desc]
  simp only [Descriptor.handedBack, attempts]

/-- R101: the outcome of a stopping queue's step by the reply that its frame brings. -/
def stoppingOutcome : ReplyCode → Outcome
  | .accepted | .duplicate => .delivered
  | .tooLong => .tooLong
  | .closed => .closed
  | _ => .stopped

/-- R86, R87, R101: each code decides the step of a stopping queue. -/
theorem replyTaken_stopping {rc : ReplyCode} {fl : ReplyFields} (pair : c.pair = some (p, i))
    (code : rc ∈ [.accepted, .duplicate, .full, .tooLong, .closed, .outOfStep, .stepState]) :
    ∃ (x : State) (c1 : Context), s.replyTaken q c true rc fl = x.endStep q c1 true (stoppingOutcome rc) ∧
      x.store = s.store ∧ x.log = s.log ∧ c1 = { c with late := c1.late, unconfirmed := false, seqSent := c1.seqSent } ∧
      c1.late = min 3 (c.late + if rc = .accepted ∨ rc = .duplicate then (s.sendPair p i).blind
        else (s.sendPair p i).found fl.last fl.fresh) := by
  have late : (c.reanchored (s.sendPair p i) fl).late = min 3 (c.late + (s.sendPair p i).found fl.last fl.fresh) := by
    rw [← discovered_eq]
    rfl
  simp only [List.mem_cons, List.not_mem_nil, or_false] at code
  unfold State.replyTaken
  rw [pair]
  rcases code with rfl | rfl | rfl | rfl | rfl | rfl | rfl
  · exact ⟨_, _, rfl, rfl, rfl, rfl, rfl⟩
  · exact ⟨_, _, rfl, rfl, rfl, rfl, rfl⟩
  · exact ⟨_, c.reanchored (s.sendPair p i) fl, rfl, rfl, rfl, rfl, late⟩
  · exact ⟨_, c.reanchored (s.sendPair p i) fl, rfl, rfl, rfl, rfl, late⟩
  · exact ⟨_, c.reanchored (s.sendPair p i) fl, rfl, rfl, rfl, rfl, late⟩
  · exact ⟨_, c.reanchored (s.sendPair p i) fl, rfl, rfl, rfl, rfl, late⟩
  · exact ⟨_, c.reanchored (s.sendPair p i) fl, rfl, rfl, rfl, rfl, late⟩

end

/-- R84, R101: a collided frame of a stopping queue. -/
theorem frameNotSent_stopping {s : State} {q : QueueIx} {c : Context} (h : s.queue q = .stopping c)
    (unsettled : c.outcome = none) : s.frameNotSent q = s.endStep q c true .stopped := by
  have flight : (s.queue q).inFlight = some (c, true) := by
    simp [h, QueueState.inFlight, unsettled]
  unfold State.frameNotSent
  rw [flight]

/-- Settles O46. -/
theorem queueStopActsByState : Obligations.QueueStopActsByState := by
  unfold Obligations.QueueStopActsByState
  refine ⟨fun q s hl hs => ?_, fun q c p line s stopping one room hs leave => ?_⟩
  · intro stop
    have stops {t : State} (h : s.stopQueue q = t) : exec stop s = .next (t.answered 0x00 []) := by
      refine exec_done hl rfl rfl (.inr hs) ?_
      simp only [State.perform, State.queueStopAnswer, indexField_queue, stop, h]
    refine ⟨fun still => stops ?_, fun d waiting => stops ?_, fun c busy => stops ?_, fun c p busy off one room => ?_⟩
    · unfold State.stopQueue
      rcases still with h | ⟨c, h⟩ <;> rw [h]
    · unfold State.stopQueue
      rcases waiting with h | h <;> rw [h]
    · unfold State.stopQueue
      rcases busy with h | ⟨h | h, on⟩
      · rw [h]
      · rw [h]
        exact if_pos ((frameOnTrunk_iff s q).mpr on)
      · rw [h]
        exact if_pos ((frameOnTrunk_iff s q).mpr on)
    · have ends : s.stopQueue q = s.endStep q c true .stopped := by
        unfold State.stopQueue
        rcases busy with h | h <;> rw [h] <;> exact if_neg (mt (frameOnTrunk_iff s q).mp off)
      obtain ⟨stopped, others, attention, log⟩ := endStep_stopping (q := q) (c := c) (o := .stopped) room
      have kept := endStep_keeps s q c true .stopped
      have pairs := PairsKept.endStep (s := s) (q := q) c true .stopped
      refine ⟨_, stops ends, stopped, endStep_toOne_desc one room true, others, ?_, fun r j => ⟨?_, ?_⟩, attention,
        kept.memory, kept.inboxes, kept.trunk⟩
      · rw [log (recordRequired_toOne one rfl), completion_toOne one]
      · rw [pairs.anchor, raiseBlind_anchor]
      · rw [pairs.blind, raiseBlind_blind]
  · intro ended
    refine ⟨fun w watch hq transmission => ⟨fun f code last fresh offer i hj body src dst hsrc hend station pair fits => ?_,
      fun idle => ?_⟩, fun tx g sent item watch stuck => ?_⟩
    · subst src hq
      obtain ⟨rc, named, answers, known⟩ := code_cases fits
      obtain ⟨u, stops, heard, -, stopped, hexec⟩ := exec_validFrameEnd_taken hj body station.symm dst hsrc hend hs
        transmission leave watch named answers (.inr stopping) one.2.2.2
      cases stopped stopping
      obtain ⟨x, c1, decides, store, log, only, late⟩ := replyTaken_stopping (s := u.unwatched) (q := w.queue)
        (fl := { last, fresh, offer }) ((stepHeard_pair s f c).trans pair) known
      have single : c1.toOne f.src := by
        rw [only]
        exact stepHeard_toOne s f c one
      have lateHeard : (s.stepHeard f c).late = c.late := by rw [stepHeard_only]
      have record : u.unwatched.sendPair f.src i = s.pairHeard f f.src i := heard.sendPair f.src i
      have stop : StoppedWith s (u.unwatched.replyTaken w.queue (s.stepHeard f c) true rc { last, fresh, offer })
          w.queue c (stoppingOutcome rc) c1.late := by
        rw [decides]
        refine (endStep_stoppedWith single ?_ _).of (store.trans heard.store) ?_ ?_
        · rw [log, show u.unwatched.log = s.log from heard.log]
          exact room
        · rw [only, stepHeard_only]
        · rw [only, stepHeard_only]
      rw [late, record, lateHeard] at stop
      refine ⟨_, hexec, stop.queue, ?_, stop.others⟩
      refine stop.handed.trans ?_
      subst named
      simp only [toOctet_le_two]
      simp only [List.mem_cons, List.not_mem_nil, or_false] at known
      rcases known with rfl | rfl | rfl | rfl | rfl | rfl | rfl <;> rfl
    · subst hq
      have flight : (s.queue w.queue).inFlight = some (c, true) := by
        simp [stopping, QueueState.inFlight, one.2.2.2]
      have missed := missed_eq hs
      have retry : s.missed.retryLimit = s.retryLimit := by rw [missed]; rfl
      have closes : s.closeWatch none = s.missed.endStep w.queue (c.unanswered w.frame) true
          (if s.retryLimit < c.stepAttempts then .noReply else .stopped) := by
        rw [closeWatch_unanswered watch flight, noReply_eq, retry]
        split
        · rfl
        · exact if_pos rfl
      have stop : StoppedWith s (s.closeWatch none) w.queue c
          (if s.retryLimit < c.stepAttempts then .noReply else .stopped) c.late := by
        rw [closes]
        have single : (c.unanswered w.frame).toOne p := one
        exact (endStep_stoppedWith single (by rw [missed]; exact room) _).of (by rw [missed]) rfl rfl
      refine ⟨_, exec_replyWatchTimeout idle, ⟨stop.queue, stop.handed, stop.others⟩, fun i pair => ?_⟩
      have paired : (c.unanswered w.frame).pair = some (p, i) := pair
      have record : s.missed.sendPair p i = s.sendPair p i := by rw [missed]; rfl
      rw [closes, (PairsKept.endStep _ _ _).blind, raiseBlind_blind, record]
      simp only [paired, and_true, unanswered_unconfirmed]
    · have trunk : (s.invalidHeard (assemble line).octets).trunk.transmission = some tx := sent
      have unwatched : (s.invalidHeard (assemble line).octets).closeWatch none = s.invalidHeard (assemble line).octets :=
        closeWatch_of_none (s := s.invalidHeard (assemble line).octets) watch none
      have rest := (collidedBy_rest (s.invalidHeard (assemble line).octets) tx.item hs).2.2.2
      have still : ((s.invalidHeard (assemble line).octets).collidedBy tx.item).queue q = .stopping c := by
        rw [rest]
        exact stopping
      have found : (s.invalidHeard (assemble line).octets).finding false =
          ((s.invalidHeard (assemble line).octets).collidedBy tx.item).endStep q c true .stopped := by
        rw [← frameNotSent_stopping still one.2.2.2, finding_collided _ trunk (valid := false) (Bool.false_and _), item]
      have stop := (endStep_stoppedWith (q := q) (s := (s.invalidHeard (assemble line).octets).collidedBy tx.item) one
        (by rw [rest]; exact room) .stopped).of (s := s) (by rw [rest]; rfl) rfl rfl
      refine ⟨_, exec_invalidActivityEnd_heard line stuck leave hs, ?_⟩
      rw [unwatched, found]
      exact ⟨stop.queue, stop.handed, stop.others⟩

end Sys2Proof.Machine
end

section
/-!
PROOFS. The clean ends of a queue's frames, and the replies to a NOTICE (R17, R44, R84, R97, R98, R101).
-/

namespace Sys2Proof.Machine

/-! ### The clean end of a queue's frame -/

section
variable {s : State} {f : Frame} {line : List Character} {tx : Transmission} {q : QueueIx} {g : QueueFrame}

/-- R44: the peer table after an own clean frame. -/
def State.peersHeard (s : State) (f : Frame) : PeerTable :=
  if f.body.claimed = true then { s.peers with presenceTimer := some 0, presenceDue := false } else s.peers

/-- R14, R27: the end of an own clean frame of a queue, before its finding. -/
theorem exec_ownClean (hj : judge line = some f) (sent : s.trunk.transmission = some tx)
    (complete : tx.phase = .complete) (item : tx.item = .queue q g) (active : s.trunk.line = .activeTx)
    (seen : s.trunk.unseenStart = false) (watch : s.trunk.watch = none) (hs : s.settings.isSome = true) :
    ∃ y : State, exec (.validFrameEnd line) s = .next (y.frameSentClean q g) ∧ y.claim.collisionCount = 0 ∧
      y.trunk.transmission = none ∧ y.trunk.watch = none ∧
      y = { s with trunk := y.trunk, claim := y.claim, peers := s.peersHeard f } := by
  have clean : tx.clean = true := by
    unfold Transmission.clean
    rw [complete]
    rfl
  have own : s.ownFrame = true := by
    unfold State.ownFrame
    rw [sent]
    exact clean
  have only := atFrameEnd_only s line f
  have observed : (s.atFrameEnd line f).observe f true =
      { s with trunk := (s.atFrameEnd line f).trunk, claim := (s.atFrameEnd line f).claim, peers := s.peersHeard f } := by
    rw [only.rest]
    unfold State.peersHeard State.observe
    by_cases claimed : f.body.claimed = true
    · rw [if_pos claimed, if_pos rfl, if_pos claimed]
      rfl
    · rw [if_neg claimed, if_pos rfl, if_neg claimed]
  have before : (s.afterActivity (assemble line).octets).beforeFinding f (decide (s.claim.state = .active)) true =
      (s.atFrameEnd line f).observe f true := by
    unfold State.beforeFinding
    rw [if_pos rfl, creditHeard_own]
    refine judgeWatch_of_none ?_ f
    change ((s.atFrameEnd line f).observe f true).trunk.watch = none
    rw [observed]
    exact only.watch.trans watch
  have found := finding_clean (s := (s.atFrameEnd line f).observe f true) (tx := tx)
    (by rw [observed]; exact only.transmission.trans sent) clean
  rw [item] at found
  rw [exec_validFrameEnd_configured hj ⟨by rw [active]; exact nofun, seen⟩ hs, own, frameReported_eq, before, found]
  refine ⟨_, rfl, rfl, rfl, ?_, ?_⟩
  · rw [observed]
    exact only.watch.trans watch
  · rw [observed]
    rfl

end

section
variable {s : State} {q : QueueIx} {c : Context} {stopping : Bool}

theorem inFlight_of {st : QueueState} (unsettled : c.outcome = none)
    (h : st = if stopping then .stopping c else .running c) : st.inFlight = some (c, stopping) := by
  cases stopping with
  | false => rw [h]; rfl
  | true => simp [h, QueueState.inFlight, unsettled]

/-- R84: the context of a step whose frame has been sent. -/
def Context.attempted (c : Context) : Context :=
  { c with stepAttempts := c.stepAttempts + 1, attempts := min 255 (c.attempts + 1) }

theorem frameSentClean_attempt {g : QueueFrame} {p : Station} (flight : (s.queue q).inFlight = some (c, stopping))
    (watched : g ≠ .bcast) (station : c.station = some p) : s.frameSentClean q g =
      (s.setQueue q (if stopping then .stopping c.attempted else .running c.attempted)).setTrunk
        { s.trunk with watch := some { queue := q, frame := g, station := p } } := by
  have still : c.attempted.station = some p := station
  unfold State.frameSentClean
  rw [flight]
  cases g with
  | bcast => exact absurd rfl watched
  | _ =>
    change (match c.attempted.station with
      | some p => _
      | none => _) = _
    rw [still]
    rfl

theorem frameSentClean_bcast (flight : (s.queue q).inFlight = some (c, stopping)) :
    s.frameSentClean q .bcast = s.endStep q { c with attempts := 1 } stopping .sent := by
  unfold State.frameSentClean
  rw [flight]

theorem frameSentClean_peers {g : QueueFrame} (watched : g ≠ .bcast) (s : State) (q : QueueIx) :
    (s.frameSentClean q g).peers = s.peers := by
  unfold State.frameSentClean
  split
  · cases g with
    | bcast => exact absurd rfl watched
    | _ =>
      dsimp only
      split <;> rfl
  · rfl

/-- R70, R71: the outcome of a message to all stations. -/
theorem toAll_ended (dest : c.destinations = .all) (current : c.current = 1) (single : c.outcomes.length = 1)
    (unsettled : c.outcome = none) (o : Outcome) :
    (c.ended o).settledOutcome = o ∧ (c.ended o).perDest = none ∧ c.left = 0 := by
  have outcomes : (c.ended o).outcomes = [o] := by
    obtain ⟨x, hx⟩ := List.length_eq_one_iff.mp single
    change c.outcomes.set (c.current - 1) o = [o]
    rw [hx, current]
    rfl
  have all : (c.ended o).destinations = .all := dest
  refine ⟨?_, ?_, ?_⟩
  · rw [settledOutcome_unsettled (c := c.ended o) unsettled, Context.messageOutcome, all, outcomes]
    cases (c.ended o).copy.kind <;> rfl
  · rw [Context.perDest, all]
    cases (c.ended o).copy.kind <;> rfl
  · simp only [Context.left, Context.destCount, dest, current]

end

/-! ### NOTICE -/

section
variable {s : State} {w : Watch} {own : Station} {f : Frame} {code : Octet} {last : Seq} {fresh : Bool} {offer : Offer}

theorem replyTaken_notice {q : QueueIx} {c : Context} {stopping : Bool} {rc : ReplyCode} {fl : ReplyFields}
    (notice : rc.fits .notice = true) :
    s.replyTaken q c stopping rc fl = s.endStep q c stopping (noticeOutcome rc) := by
  cases rc <;> simp [ReplyCode.fits] at notice <;> rfl

end

/-- Settles O51. -/
theorem cleanEndsAndNoticeRepliesDecideSteps : Obligations.CleanEndsAndNoticeRepliesDecideSteps := by
  unfold Obligations.CleanEndsAndNoticeRepliesDecideSteps
  refine ⟨fun line f q c g tx stopping s hj src sent complete item active seen watch leave hs busy unsettled room => ?_,
    fun line f code last fresh offer q c p s hj body src dst hsrc hend hs transmission leave watch busy kind one room => ?_⟩
  · obtain ⟨y, hexec, count, transmission, unwatched, rest⟩ := exec_ownClean hj sent complete item active seen watch hs
    have now : y.queue q = if stopping then .stopping c else .running c := by
      rw [rest]
      exact busy
    have flight := inFlight_of unsettled now
    obtain ⟨w, kept⟩ := frameSentClean_keeps y q g
    refine ⟨_, hexec, by rw [kept.claim]; exact count, by rw [kept.trunk]; exact transmission, fun claimed => ?_,
      fun p watched station => ?_, fun bcast kind dest current single => ?_⟩
    · have peers : y.peers = { s.peers with presenceTimer := some 0, presenceDue := false } := by
        rw [rest]
        exact if_pos claimed
      refine ⟨?_, ?_, fun watched => ?_⟩
      · rw [kept.presence.1]
        exact congrArg PeerTable.presenceTimer peers
      · rw [kept.presence.2]
        exact congrArg PeerTable.presenceDue peers
      · rw [frameSentClean_peers watched, peers]
    · intro c'
      rw [frameSentClean_attempt flight watched station]
      exact ⟨(setQueue_queue ..).trans (if_pos rfl), rfl⟩
    · subst bcast
      obtain ⟨outcome, list, left⟩ := toAll_ended (c := { c with attempts := 1 }) dest current single unsettled .sent
      have empty : y.log.length < 64 := by rw [rest]; exact room
      have desc : y.desc c.head = s.desc c.head := by rw [rest]; rfl
      rw [frameSentClean_bcast flight]
      refine ⟨?_, fun stopped => ?_, ?_⟩
      · rw [(endStep_keeps ..).trunk, unwatched]
      · rw [stopped]
        exact (endStep_stopping empty).1
      · refine (endStep_desc (c := { c with attempts := 1 }) (.inr (.inr left)) empty).trans ?_
        rw [outcome, list, desc]
        rfl
  · subst src
    obtain ⟨u, heard, hexec⟩ := exec_validFrameEnd_reply hj body hsrc hend hs transmission leave watch
    have unsettled : (s.stepHeard f c).outcome = none := by rw [stepHeard_only]; exact one.2.2.2
    have now : u.queue q = .running (s.stepHeard f c) ∨ u.queue q = .stopping (s.stepHeard f c) := by
      rw [heard.queue]
      exact busy.imp (fun h => by rw [h]; rfl) fun h => by rw [h]; rfl
    obtain ⟨stopping, flight, -, stops⟩ := inFlight_cases unsettled now
    have single := stepHeard_toOne s f c one
    have empty : u.unwatched.log.length < 64 := by rw [show u.unwatched.log = s.log from heard.log]; exact room
    have taken {rc : ReplyCode} (named : code = rc.toOctet) (notice : rc.fits .notice = true) :
        ((∃ x, s.queue q = .stopping x) → (u.closeWatch (Watch.answer ⟨q, .notice, f.src⟩ s.own f)).queue q = .stopped) ∧
        (u.closeWatch (Watch.answer ⟨q, .notice, f.src⟩ s.own f)).trunk.watch = none ∧
        (u.closeWatch (Watch.answer ⟨q, .notice, f.src⟩ s.own f)).desc c.head =
          (s.desc c.head).handedBack c (noticeOutcome rc) c.late := by
      have same : (s.stepHeard f c).head = c.head ∧ (s.stepHeard f c).attempts = c.attempts ∧
          (s.stepHeard f c).late = c.late := by
        rw [stepHeard_only]
        exact ⟨rfl, rfl, rfl⟩
      obtain ⟨head, attempts, late⟩ := same
      have handed := endStep_toOne_desc (s := u.unwatched) (q := q) (o := noticeOutcome rc) single empty stopping
      rw [head, late, show u.unwatched.desc c.head = s.desc c.head from heard.desc c.head] at handed
      rw [answer_reply body rfl dst named notice, closeWatch_reply (heard.exchanges.1.trans watch) flight,
        replyTaken_notice notice]
      refine ⟨fun ⟨x, hx⟩ => ?_, by rw [(endStep_keeps ..).trunk]; rfl, handed.trans ?_⟩
      · have stopping' : u.queue q = .stopping (s.stepHeard f c) := by
          rw [heard.queue]
          rcases busy with h | h
          · rw [hx] at h
            cases h
          · rw [h]
            rfl
        rw [stops stopping']
        exact (endStep_stopping empty).1
      · simp only [Descriptor.handedBack, attempts]
    refine ⟨_, hexec, fun stopped codes => ?_, fun eight => ?_, fun nine => ?_, fun ten => ?_⟩
    · rcases codes with eight | nine | ten
      · exact (taken (rc := .noticeTaken) eight rfl).1 stopped
      · exact (taken (rc := .noticeOverwrote) nine rfl).1 stopped
      · exact (taken (rc := .noticeClosed) ten rfl).1 stopped
    · exact (taken (rc := .noticeTaken) eight rfl).2
    · exact (taken (rc := .noticeOverwrote) nine rfl).2
    · exact (taken (rc := .noticeClosed) ten rfl).2

end Sys2Proof.Machine
end

section
/-!
PROOFS. The attempts that are not answered, and the step toward the next destination of a fan-out MESSAGE (R17, R68,
R70, R91, R92, R95, R96, R98).
-/

namespace Sys2Proof.Machine

/-! ### The next step of a fan-out MESSAGE -/

section
variable {s : State} {q : QueueIx} {c : Context} {o : Outcome} {p r : Station} {i : InboxIx}

theorem beginStep_only (s : State) (q : QueueIx) (c : Context) :
    s.beginStep q c = { s with peers := (s.beginStep q c).peers, queues := (s.beginStep q c).queues } := by
  unfold State.beginStep State.takeLock State.readHint
  split
  · split
    · split <;> rfl
    · rfl
  · rfl

/-- R79, R81: the queue of a MESSAGE step that begins. -/
theorem beginStep_queue (pair : c.pair = some (r, i)) : (s.beginStep q c).queue q =
    if (s.sendPair r i).lock ≠ none then .running { c with lock := .awaited }
    else if s.hint r i = some 0 then .held { c with lock := .taken, hold := some s.holdTicks }
    else .running { c with lock := .taken } := by
  unfold State.beginStep
  rw [pair]
  dsimp only
  unfold State.takeLock
  cases lock : (s.sendPair r i).lock with
  | some holder => exact ((setQueue_queue ..).trans (if_pos rfl)).trans (if_pos nofun).symm
  | none =>
    have hint : (s.setLock r i (some q)).hint r i = s.hint r i := setSendPair_hint ..
    rw [if_neg (not_not.mpr rfl)]
    dsimp only
    unfold State.readHint
    rw [hint]
    split <;> exact (setQueue_queue ..).trans (if_pos rfl)

/-- R80, R95: the end of a step toward one pair leaves the other records alone. -/
theorem stepLeft_other {j : InboxIx} (pair : c.pair = some (p, i)) (other : (r, j) ≠ (p, i)) :
    (s.stepLeft q c).sendPair r j = s.sendPair r j := by
  have differs : ¬ (p = r ∧ i = j) := fun same => other (by rw [← same.1, ← same.2])
  have raised : (s.raiseBlind c).sendPair r j = s.sendPair r j := by
    rw [raiseBlind_sendPair, if_neg]
    rintro ⟨-, h⟩
    rw [pair] at h
    cases h
    exact other rfl
  have locked (l : Option QueueIx) : ((s.raiseBlind c).setLock p i l).sendPair r j = s.sendPair r j := by
    rw [State.setLock, setSendPair_sendPair, if_neg differs, raised]
  unfold State.stepLeft State.dropLock
  rw [pair]
  dsimp only
  split
  · unfold State.releaseLock
    split
    · unfold State.readHint
      split <;> exact locked _
    · exact locked _
  · exact raised

theorem stepLeft_hint (s : State) (q : QueueIx) (c : Context) (r : Station) (j : InboxIx) :
    (s.stepLeft q c).hint r j = s.hint r j :=
  ((PairsKept.dropLock c).hint r j).trans (raiseBlind_hint ..)

theorem stepLeft_state (s : State) (q : QueueIx) (c : Context) (r : Station) :
    ((s.stepLeft q c).peer r).state = (s.peer r).state :=
  (((dropLock_keeps _ q c).peer r).1).trans ((raiseBlind_keeps s c).peer r).1

theorem stepLeft_holdTicks (s : State) (q : QueueIx) (c : Context) : (s.stepLeft q c).holdTicks = s.holdTicks := by
  rw [stepLeft_only]
  rfl

/-- R68, R96: the context of the step toward the next destination. -/
def Context.following (c : Context) (o : Outcome) : Context :=
  { c with
    current := c.current + 1, outcomes := c.outcomes.set (c.current - 1) o, stepAttempts := 0, fullCount := 0,
    hold := none, lock := .none, unconfirmed := false, seqSent := none }

/-- R68, R70, R95: the step toward the next destination begins in the state that the decided one leaves. -/
theorem endStep_following {l : List Station} (list : c.destinations = .list l)
    (next : l[c.current]? = some r) (awake : (s.peer r).state ≠ .silent) (goes : o ≠ .stopped) :
    s.endStep q c false o = (s.stepLeft q c).beginStep q (c.following o) := by
  have within : c.current < l.length := (List.getElem?_eq_some_iff.mp next).1
  have left : c.left = l.length - c.current := by simp only [Context.left, Context.destCount, list]
  have station : (c.following o).station = some r := by
    have still : (c.following o).destinations = .list l := list
    simp only [Context.station, still]
    exact next
  have begins := beginSteps_awake (t := s.stepLeft q c) (q := q)
    (c := { c.ended o with current := c.current + 1 }) (silentStep_false fun x hx => by
      cases station.symm.trans hx
      rw [stepLeft_state]
      exact awake) (c.left - 1)
  have more : ¬ (false || o == .stopped || (c.ended o).left == 0) = true := by
    have ahead : (c.ended o).left ≠ 0 := by
      change c.left ≠ 0
      omega
    simp [goes, ahead]
  refine (if_neg more).trans ?_
  change (match (s.stepLeft q c).beginSteps q { c.ended o with current := c.current + 1 } (c.left - 1) with
    | .underWay s => s
    | .decided c s => s.settle q c false) = _
  rw [begins]
  rfl

/-- R68, R79, R81, R96: where that step stands. -/
theorem endStep_next {l : List Station} (pair : c.pair = some (p, i)) (list : c.destinations = .list l)
    (next : l[c.current]? = some r) (other : r ≠ p) (awake : (s.peer r).state ≠ .silent)
    (goes : o ≠ .stopped) :
    (s.endStep q c false o).store = s.store ∧ (s.endStep q c false o).log = s.log ∧
      (s.endStep q c false o).queue q =
        if (s.sendPair r i).lock ≠ none then .running { c.following o with lock := .awaited }
        else if s.hint r i = some 0 then .held { c.following o with lock := .taken, hold := some s.holdTicks }
        else .running { c.following o with lock := .taken } := by
  obtain ⟨kind, -, inbox⟩ := pair_eq_some.mp pair
  have paired : (c.following o).pair = some (r, i) := by
    refine pair_eq_some.mpr ⟨kind, ?_, inbox⟩
    have still : (c.following o).destinations = .list l := list
    simp only [Context.station, still]
    exact next
  have begins := endStep_following (q := q) list next awake goes
  have queue := beginStep_queue (s := s.stepLeft q c) (q := q) paired
  rw [stepLeft_other pair (fun same => other (congrArg Prod.fst same)), stepLeft_hint, stepLeft_holdTicks] at queue
  rw [begins]
  refine ⟨?_, ?_, queue⟩
  · rw [beginStep_only, stepLeft_only]
  · rw [beginStep_only, stepLeft_only]

/-- R70, R71: a fan-out MESSAGE whose last destination is decided. -/
theorem endStep_fanout {l : List Station} (kind : c.copy.kind = .message) (list : c.destinations = .list l)
    (unsettled : c.outcome = none) (last : c.current = l.length) (room : s.log.length < 64) (stopping : Bool) :
    (s.endStep q c stopping o).desc c.head = { s.desc c.head with
      armed := false, holder := none, outcome := some (fanoutOutcome (c.outcomes.set (c.current - 1) o)),
      attempts := c.attempts, late := c.late, perDest := some (l.zip (c.outcomes.set (c.current - 1) o)) } := by
  have left : c.left = 0 := by simp only [Context.left, Context.destCount, list, last, Nat.sub_self]
  rw [endStep_desc (.inr (.inr left)) room, settledOutcome_list (c := c.ended o) kind list unsettled,
    perDest_list (c := c.ended o) kind list unsettled]
  rfl

end

/-! ### An unanswered attempt -/

/-- What a state shares with `s` in which an open watch is about to close with NO_REPLY, the hints and blind counts being
those given. -/
structure MissesFrom (s x : State) (w : Watch) (c : Context) (hint : Station → InboxIx → Option Offer)
    (blind : Station → InboxIx → Nat) : Prop where
  watch : x.trunk.watch = some w
  running : x.queue w.queue = .running c
  settings : x.settings = s.settings
  straps : x.straps = s.straps
  noReply : x.counters.noReply = s.counters.noReply
  store : x.store = s.store
  log : x.log = s.log
  anchor : ∀ r j, (x.sendPair r j).anchor = (s.sendPair r j).anchor
  lock : ∀ r j, (x.sendPair r j).lock = (s.sendPair r j).lock
  blind : ∀ r j, (x.sendPair r j).blind = blind r j
  hint : ∀ r j, x.hint r j = hint r j
  awake : ∀ r, (s.peer r).state ≠ .silent → (x.peer r).state ≠ .silent

namespace MissesFrom

variable {s x : State} {w : Watch} {c : Context} {hint : Station → InboxIx → Option Offer}
  {blind : Station → InboxIx → Nat} (b : MissesFrom s x w c hint blind) (hs : s.settings.isSome = true)
include b hs

theorem missed : x.missed = { x with
    trunk := { x.trunk with watch := none },
    counters := { x.counters with noReply := min 65535 (s.counters.noReply + 1) } } := by
  rw [missed_eq (by rw [b.settings]; exact hs), b.noReply]

omit hs in
theorem closes : x.closeWatch none = x.missed.noReply w.queue c false w.frame :=
  closeWatch_unanswered b.watch (by rw [b.running]; rfl)

theorem retryLimit : x.missed.retryLimit = s.retryLimit := by
  rw [b.missed hs]
  exact congrArg (fun set => (Option.map (·.retryLimit) set).getD 0) b.settings

theorem holdTicks : x.missed.holdTicks = s.holdTicks := by
  rw [b.missed hs]
  change x.holdTicks = s.holdTicks
  simp only [State.holdTicks, b.settings, b.straps]

theorem sendPair (r : Station) (j : InboxIx) : x.missed.sendPair r j = x.sendPair r j := by
  rw [b.missed hs]
  rfl

theorem hintKept (r : Station) (j : InboxIx) : x.missed.hint r j = hint r j := by
  rw [b.missed hs]
  exact b.hint r j

theorem desc (d : DescIx) : x.missed.desc d = s.desc d := by
  rw [b.missed hs]
  change x.desc d = s.desc d
  simp only [State.desc, b.store]

theorem logKept : x.missed.log = s.log := by
  rw [b.missed hs]
  exact b.log

/-- R91: within the retry limit the step goes on. -/
theorem within (more : ¬ s.retryLimit < c.stepAttempts) :
    x.closeWatch none = x.missed.continueStep w.queue (c.unanswered w.frame) := by
  rw [b.closes, noReply_eq, b.retryLimit hs, if_neg more]
  exact if_neg Bool.false_ne_true

/-- R92: past it the step is decided NO_REPLY. -/
theorem exceeded (over' : s.retryLimit < c.stepAttempts) :
    x.closeWatch none = x.missed.endStep w.queue (c.unanswered w.frame) false .noReply := by
  rw [b.closes, noReply_eq, b.retryLimit hs, if_pos over']

/-- R91, R92, R95: what becomes of the pair records. -/
theorem pairs : PairsKept (if s.retryLimit < c.stepAttempts then x.missed.raiseBlind (c.unanswered w.frame) else x.missed)
    (x.closeWatch none) := by
  split
  · next over' =>
    rw [b.exceeded hs over']
    exact .endStep ..
  · next more =>
    rw [b.within hs more]
    exact .continueStep _

end MissesFrom

theorem replyCodeOf_some {code : Octet} {rc : ReplyCode} (named : replyCodeOf code = some rc) :
    code.toNat = rc.toOctet.toNat := by
  unfold replyCodeOf at named
  split at named <;> cases named <;> assumption

theorem fits_range (rc : ReplyCode) (g : QueueFrame) (fits : rc.fits g = true) :
    (g = .data ∧ 1 ≤ rc.toOctet.toNat ∧ rc.toOctet.toNat ≤ 6) ∨ (g = .step ∧ rc.toOctet.toNat = 7) ∨
      (g = .notice ∧ 8 ≤ rc.toOctet.toNat ∧ rc.toOctet.toNat ≤ 10) := by
  revert fits
  cases rc <;> cases g <;> decide

/-- R17: a watch whose attempt the frame does not answer. -/
theorem answer_none {w : Watch} {own : Station} {f : Frame}
    (unfit : ∀ code last fresh offer, f.body = .reply code last fresh offer → f.src = w.station → f.dst = some own →
      ¬ ((w.frame = .data ∧ 1 ≤ code.toNat ∧ code.toNat ≤ 6) ∨ (w.frame = .step ∧ code.toNat = 7) ∨
        (w.frame = .notice ∧ 8 ≤ code.toNat ∧ code.toNat ≤ 10))) : w.answer own f = none := by
  unfold Watch.answer
  split
  · next code last fresh offer body =>
    split
    · next addressed =>
      cases named : replyCodeOf code with
      | none => rfl
      | some rc =>
        refine if_neg fun fits => ?_
        have range := fits_range rc w.frame fits
        rw [← replyCodeOf_some named] at range
        exact unfit code last fresh offer body addressed.1 addressed.2 range
    · rfl
  · rfl

/-- A decision sets receive pair records alone of the peer table. -/
theorem Decided.peer {s t : State} {f : Frame} (h : Decided f s t) (p : Station) :
    t.peer p = { s.peer p with receive := (t.peer p).receive } := by
  by_cases hp : p = f.src
  · subst hp
    exact h.source
  · rw [h.other p hp]

/-- R48, R49, R99: the watch that closes after another station's frame was heard, decided and, for a CREDIT, taken. -/
theorem HeardAs.misses {s u : State} {f : Frame} {w : Watch} {c : Context} (heard : HeardAs s f u) (hsrc : f.src ≠ s.own)
    (watch : s.trunk.watch = some w) (running : s.queue w.queue = .running c) (active : Bool)
    {hint : Station → InboxIx → Option Offer}
    (credited : ∀ offer, f.body = .credit offer → ∀ r j,
      hint r j = if f.src = r ∧ f.ch = j ∧ r ≠ s.own then some offer else s.hintHeard f r j)
    (plain : (∀ offer, f.body ≠ .credit offer) → ∀ r j, hint r j = s.hintHeard f r j) :
    MissesFrom s ((u.arrival f active).creditHeard f false) w (s.stepHeard f c) hint
      fun r j => (s.pairHeard f r j).blind := by
  have own : (u.arrival f active).own = s.own := (arrival_station u f active).own.trans heard.own
  have decided := arrival_decided u f active
  have rest := creditHeard_rest (u.arrival f active) f
  have hints (r : Station) (j : InboxIx) : (u.arrival f active).hint r j = s.hintHeard f r j := by
    rw [← heard.hint]
    have hints := congrArg (fun e : PeerEntry => e.hints[j]) (decided.peer r)
    exact hints
  have pairs (r : Station) (j : InboxIx) :
      (((u.arrival f active).creditHeard f false).sendPair r j) = s.pairHeard f r j := by
    rw [← heard.sendPair]
    have credited := congrArg (fun e : PeerEntry => e.send[j]) (rest.2.2.2 r)
    have arrived := congrArg (fun e : PeerEntry => e.send[j]) (decided.peer r)
    exact credited.trans arrived
  have queued : (u.arrival f active).queue w.queue = .running (s.stepHeard f c) := by
    have same : (u.arrival f active).queue w.queue = u.queue w.queue := by simp only [State.queue, decided.queues]
    rw [same, heard.queue, running]
    rfl
  have station := (arrival_station u f active).trans (creditHeard_station _ f false)
  refine ⟨?_, ?_, station.settings.trans heard.settings, station.straps.trans heard.straps, ?_,
    rest.1.trans (decided.store.trans heard.store), rest.2.1.trans (decided.log.trans heard.log), fun r j => ?_,
    fun r j => ?_, fun r j => ?_, fun r j => ?_, fun r awake => ?_⟩
  · rw [(creditHeard_keeps ..).trunk, (arrival_exchanges ..).1, heard.exchanges.1, watch]
  · by_cases credit : ∃ offer, f.body = .credit offer
    · obtain ⟨offer, body⟩ := credit
      rw [creditHeard_eq body (by rw [own]; exact hsrc)]
      refine (releaseHeld_same (.inr (.inr fun c' held => ?_))).trans queued
      cases queued.symm.trans held
    · rw [creditHeard_of_not_credit fun offer body => credit ⟨offer, body⟩]
      exact queued
  · rw [(creditHeard_keeps ..).counters, (arrival_counters ..).2.2, heard.counters]
  · rw [pairs, pairHeard_anchor]
  · rw [pairs, pairHeard_lock]
  · rw [pairs]
  · by_cases credit : ∃ offer, f.body = .credit offer
    · obtain ⟨offer, body⟩ := credit
      rw [credited offer body, creditHeard_hint body (by rw [own]; exact hsrc), hints]
      refine if_congr ⟨fun same => ?_, fun same => by rw [same.1, same.2.1]⟩ rfl rfl
      cases same
      exact ⟨rfl, rfl, hsrc⟩
    · rw [creditHeard_of_not_credit fun offer body => credit ⟨offer, body⟩, hints,
        plain fun offer body => credit ⟨offer, body⟩]
  · rw [rest.2.2.2 r, decided.peer r]
    change (u.peer r).state ≠ .silent
    by_cases hr : r = f.src
    · rw [hr, heard.source.1]
      decide
    · rw [heard.other r hr]
      exact awake

/-- Settles O50. -/
theorem unansweredAttemptsAreRetriedThenGivenUp : Obligations.UnansweredAttemptsAreRetriedThenGivenUp := by
  unfold Obligations.UnansweredAttemptsAreRetriedThenGivenUp
  intro q c w s hs watch hq running unsettled unanswered asBefore
  subst hq
  have misses {x : State} {c : Context} {hint : Station → InboxIx → Option Offer} {blind : Station → InboxIx → Nat}
      (b : MissesFrom s x w c hint blind) (unsettled : c.outcome = none) :
      unanswered (x.closeWatch none) c hint blind := by
    have kept := noReply_keeps x.missed w.queue c false w.frame
    rw [← b.closes] at kept
    have pairs := b.pairs hs
    refine ⟨?_, ?_, fun r j => ⟨?_, ?_, fun other => ?_⟩, fun notice more => ?_, fun p over' one room => ⟨?_, ?_⟩,
      fun p i pair => ⟨fun more => ⟨?_, ?_⟩, fun over' => ?_, fun l over' list length => ⟨fun last room => ?_,
        fun r later next other awake => ?_⟩⟩⟩
    · rw [kept.trunk, b.missed hs]
    · rw [kept.counters, b.missed hs]
    · rw [pairs.anchor]
      split
      · rw [raiseBlind_anchor, b.sendPair hs, b.anchor]
      · rw [b.sendPair hs, b.anchor]
    · rw [pairs.hint]
      split
      · rw [raiseBlind_hint, b.hintKept hs]
      · rw [b.hintKept hs]
    · have unpaired : ¬ ((c.unanswered w.frame).unconfirmed = true ∧ (c.unanswered w.frame).pair = some (r, j)) :=
        fun h => other h.2
      rw [pairs.blind]
      split
      · rw [raiseBlind_blind, if_neg unpaired, b.sendPair hs, b.blind]
      · rw [b.sendPair hs, b.blind]
    · have unpaired : (c.unanswered w.frame).pair = none := by
        unfold Context.pair
        refine if_neg fun message => ?_
        have kind : c.copy.kind = .message := beq_iff_eq.mp message
        rw [notice] at kind
        cases kind
      rw [b.within hs more]
      unfold State.continueStep
      rw [unpaired]
      exact (setQueue_queue ..).trans (if_pos rfl)
    · rw [b.exceeded hs over']
      refine (endStep_toOne_desc (c := c.unanswered w.frame) one (by rw [b.logKept hs]; exact room) false).trans ?_
      rw [b.desc hs]
      rfl
    · have recorded := endStep_toOne_log (s := x.missed) (q := w.queue) (c := c.unanswered w.frame) (o := .noReply) one
        (by rw [b.logKept hs]; exact room) rfl false
      rw [b.logKept hs] at recorded
      rw [b.exceeded hs over']
      exact recorded
    · rw [pairs.blind, if_neg more, b.sendPair hs, b.blind]
    · have paired : (c.unanswered w.frame).pair = some (p, i) := pair
      rw [b.within hs more, continueStep_queue paired, b.hintKept hs, b.holdTicks hs]
      rfl
    · have paired : (c.unanswered w.frame).pair = some (p, i) := pair
      rw [pairs.blind, if_pos over', raiseBlind_blind, b.sendPair hs, b.blind]
      simp only [paired, and_true]
      rfl
    · have kind := (pair_eq_some.mp pair).1
      rw [b.exceeded hs over']
      refine (endStep_fanout (c := c.unanswered w.frame) kind list unsettled last (by rw [b.logKept hs]; exact room)
        false).trans ?_
      rw [b.desc hs]
      rfl
    · have paired : (c.unanswered w.frame).pair = some (p, i) := pair
      have silent : (x.missed.peer r).state ≠ .silent := by
        rw [b.missed hs]
        exact b.awake r awake
      obtain ⟨store, log, queue⟩ := endStep_next (s := x.missed) (q := w.queue) (o := .noReply) paired list next other
        silent (by decide)
      rw [b.exceeded hs over']
      refine ⟨store.trans ?_, log.trans (b.logKept hs), queue.trans ?_⟩
      · rw [b.missed hs]
        exact b.store
      · rw [b.sendPair hs, b.lock, b.hintKept hs, b.holdTicks hs]
        rfl
  have unheard {x : State} (only : x = { s with
        trunk := x.trunk, claim := x.claim, attention := x.attention, counters := x.counters })
      (watched : x.trunk.watch = some w) (counted : x.counters.noReply = s.counters.noReply) :
      MissesFrom s x w c (fun r j => s.hint r j) fun r j => (s.sendPair r j).blind := by
    have peer (r : Station) : x.peer r = s.peer r := by rw [only]; rfl
    have pair (r : Station) (j : InboxIx) : x.sendPair r j = s.sendPair r j := by rw [only]; rfl
    refine ⟨watched, ?_, by rw [only], by rw [only], counted, by rw [only], by rw [only], fun r j => by rw [pair],
      fun r j => by rw [pair], fun r j => by rw [pair], fun r j => ?_, fun r h => by rwa [peer]⟩
    · rw [only]; exact running
    · rw [only]; rfl
  refine ⟨fun idle => ?_, fun line transmission => ⟨fun stuck => ?_, fun leave stuck => ?_,
    fun f leave hj hend unfit => ?_⟩⟩
  · refine ⟨_, exec_replyWatchTimeout idle, misses (unheard rfl watch rfl) unsettled, closeWatch_trunk .., ?_⟩
    have b := unheard (x := s) rfl watch rfl
    rw [b.closes, (noReply_keeps ..).counters, b.missed hs]
  · have found := enterStuck_found hs (assemble line).octets
    have b := unheard (x := (s.activityBegins.keepOctets (assemble line).octets).enterStuck)
      (by rw [found]) (by rw [found]; exact watch) (by rw [found])
    have ended : (((s.activityBegins.keepOctets (assemble line).octets).enterStuck).closeWatch none).finding false =
        ((s.activityBegins.keepOctets (assemble line).octets).enterStuck).closeWatch none :=
      finding_of_none (by rw [closeWatch_trunk, found]; exact transmission) false
    exact ⟨_, (exec_lineFoundStuck_configured stuck hs line).trans (congrArg _ ended), misses b unsettled⟩
  · have b := unheard (x := s.invalidHeard (assemble line).octets) rfl watch rfl
    have ended : ((s.invalidHeard (assemble line).octets).closeWatch none).finding false =
        (s.invalidHeard (assemble line).octets).closeWatch none :=
      finding_of_none (by rw [closeWatch_trunk]; exact transmission) false
    exact ⟨_, (exec_invalidActivityEnd_heard line stuck leave hs).trans (congrArg _ ended), misses b unsettled⟩
  · intro hint
    have unanswering := answer_none unfit
    have still : (s.stepHeard f c).outcome = none := by rw [stepHeard_only]; exact unsettled
    have judged {x : State} (own : x.own = s.own) (watched : x.trunk.watch = some w) :
        x.judgeWatch f = x.closeWatch none := by
      unfold State.judgeWatch
      rw [watched, own]
      exact congrArg x.closeWatch unanswering
    by_cases hsrc : f.src = s.own
    · have only := atFrameEnd_only s line f
      have silent : ¬ s.reveals f = true := by
        unfold State.reveals
        rw [decide_eq_false (not_not.mpr hsrc), Bool.false_and]
        exact nofun
      have step : s.stepHeard f c = c := if_neg fun h => silent h.1
      have hints (r : Station) (j : InboxIx) : hint r j = s.hint r j := by
        have heard : s.hintHeard f r j = s.hint r j := if_neg fun h => silent h.1
        change (match f.body with
          | .credit offer => if f.src = r ∧ f.ch = j ∧ r ≠ s.own then some offer else s.hintHeard f r j
          | _ => s.hintHeard f r j) = _
        cases f.body with
        | credit offer => exact (if_neg fun h => h.2.2 (h.1.symm.trans hsrc)).trans heard
        | _ => exact heard
      have records (r : Station) (j : InboxIx) : s.pairHeard f r j = s.sendPair r j := if_neg fun h => silent h.1
      have prior := unheard (x := s.atFrameEnd line f) (by rw [only.rest]) (only.watch.trans watch) (by rw [only.rest])
      have b : MissesFrom s (s.atFrameEnd line f) w (s.stepHeard f c) hint fun r j => (s.pairHeard f r j).blind :=
        { prior with
          running := by rw [step]; exact prior.running
          blind := fun r j => by rw [records]; exact prior.blind r j
          hint := fun r j => by rw [hints]; exact prior.hint r j }
      have closed := judged only.own prior.watch
      have ended : ((s.atFrameEnd line f).closeWatch none).finding true = (s.atFrameEnd line f).closeWatch none :=
        finding_of_none (by rw [closeWatch_trunk]; exact only.transmission.trans transmission) true
      refine ⟨_, (exec_validFrameEnd_sameAddress hj hsrc hend hs transmission).trans ?_, misses b still⟩
      rw [closed, ended]
    · obtain ⟨u, heard, hexec⟩ := exec_validFrameEnd_watched hj hsrc hend hs transmission leave watch
      rw [unanswering] at hexec
      refine ⟨_, hexec, misses (heard.misses hsrc watch running _ (fun offer body r j => ?_) fun plain r j => ?_) still⟩
      · change (match f.body with
          | .credit offer => if f.src = r ∧ f.ch = j ∧ r ≠ s.own then some offer else s.hintHeard f r j
          | _ => s.hintHeard f r j) = _
        rw [body]
      · change (match f.body with
          | .credit offer => if f.src = r ∧ f.ch = j ∧ r ≠ s.own then some offer else s.hintHeard f r j
          | _ => s.hintHeard f r j) = _
        cases body : f.body with
        | credit offer => exact absurd body (plain offer)
        | _ => rfl

end Sys2Proof.Machine
end

section
/-!
PROOFS. A MESSAGE that its reply decides: the hand-over of its lock, the hand-back, and what the queue goes on to (R58,
R63, R66, R68, R70 to R72, R79 to R81, R87, R94 to R96, R145, R146, R149).
-/

namespace Sys2Proof.Machine

/-! ### The hand-over of a lock (R80, R81) -/

theorem following_ne (q : QueueIx) {n : Nat} (low : 1 ≤ n) (high : n ≤ 3) : q + Fin.ofNat 4 n ≠ q := by
  have others : ∀ q : QueueIx, q + 1 ≠ q ∧ q + 2 ≠ q ∧ q + 3 ≠ q := by decide
  obtain ⟨one, two, three⟩ := others q
  obtain rfl | rfl | rfl : n = 1 ∨ n = 2 ∨ n = 3 := by omega
  · exact one
  · exact two
  · exact three

section
variable {s : State} {q r : QueueIx} {c : Context} {p : Station} {i : InboxIx}

theorem firstAwaiting_none (unawaited : ∀ n, n ≠ q → (s.queue n).awaits p i = none) : s.firstAwaiting q p i = none := by
  unfold State.firstAwaiting
  have others : ∀ q : QueueIx, ∀ n ∈ [q + 1, q + 2, q + 3], n ≠ q := by decide
  refine List.findSome?_eq_none_iff.mpr fun n hn => ?_
  rw [unawaited n (others q n hn)]
  rfl

theorem firstAwaiting_ne_none : s.firstAwaiting q p i ≠ none ↔ ∃ n, n ≠ q ∧ (s.queue n).awaits p i ≠ none := by
  constructor
  · intro some'
    by_contra none'
    refine some' (firstAwaiting_none fun n hn => ?_)
    by_contra awaited
    exact none' ⟨n, hn, awaited⟩
  · rintro ⟨n, hn, awaited⟩ none'
    have all := List.findSome?_eq_none_iff.mp none'
    have order : ∀ q n : QueueIx, n ≠ q → n ∈ [q + 1, q + 2, q + 3] := by decide
    exact awaited (Option.map_eq_none_iff.mp (all n (order q n hn)))

/-- R80: the order in which the queues after `q` are asked. -/
theorem firstAwaiting_first {n : Nat} (low : 1 ≤ n) (high : n ≤ 3)
    (awaits : (s.queue (q + Fin.ofNat 4 n)).awaits p i = some c)
    (before : ∀ m, 1 ≤ m → m < n → (s.queue (q + Fin.ofNat 4 m)).awaits p i = none) :
    s.firstAwaiting q p i = some (q + Fin.ofNat 4 n, c) := by
  have asked (m : Nat) (hm : 1 ≤ m) (hn : m < n) :
      ((s.queue (q + Fin.ofNat 4 m)).awaits p i).map (fun c => (q + Fin.ofNat 4 m, c)) = none := by
    rw [before m hm hn]
    rfl
  have found : ((s.queue (q + Fin.ofNat 4 n)).awaits p i).map (fun c => (q + Fin.ofNat 4 n, c)) =
      some (q + Fin.ofNat 4 n, c) := by
    rw [awaits]
    rfl
  change List.findSome? (fun n => ((s.queue n).awaits p i).map fun c => (n, c))
    [q + Fin.ofNat 4 1, q + Fin.ofNat 4 2, q + Fin.ofNat 4 3] = _
  obtain rfl | rfl | rfl : n = 1 ∨ n = 2 ∨ n = 3 := by omega
  · simp only [List.findSome?, found]
  · simp only [List.findSome?, asked 1 (by decide) (by decide), found]
  · simp only [List.findSome?, asked 1 (by decide) (by decide), asked 2 (by decide) (by decide), found]

theorem releaseLock_free (none' : s.firstAwaiting q p i = none) : s.releaseLock q p i = s.setLock p i none := by
  unfold State.releaseLock
  rw [none']

theorem releaseLock_passed (first : s.firstAwaiting q p i = some (r, c)) : s.releaseLock q p i =
    (s.setLock p i (some r)).setQueue r (if s.hint p i = some 0
      then .held { c with lock := .taken, hold := some s.holdTicks } else .running { c with lock := .taken }) := by
  have hint : (s.setLock p i (some r)).hint p i = s.hint p i := setSendPair_hint ..
  unfold State.releaseLock State.readHint
  rw [first]
  dsimp only
  rw [hint]
  split <;> rfl

theorem releaseLock_lock : ((s.releaseLock q p i).sendPair p i).lock = (s.firstAwaiting q p i).map Prod.fst := by
  cases first : s.firstAwaiting q p i with
  | none =>
    rw [releaseLock_free first]
    exact (setLock_lock ..).trans (if_pos ⟨rfl, rfl⟩)
  | some x =>
    rw [releaseLock_passed first]
    exact (setLock_lock ..).trans (if_pos ⟨rfl, rfl⟩)

/-- R80: the queue whose step ends keeps its own state. -/
theorem releaseLock_self : (s.releaseLock q p i).queue q = s.queue q := by
  cases first : s.firstAwaiting q p i with
  | none => rw [releaseLock_free first]; rfl
  | some x =>
    rw [releaseLock_passed first]
    exact (setQueue_queue ..).trans (if_neg (firstAwaiting_awaits s first).1)

/-- R95: the end of a confirmed MESSAGE step that has its lock. -/
theorem stepLeft_taken (confirmed : c.unconfirmed = false) (pair : c.pair = some (p, i)) (taken : c.lock = .taken) :
    s.stepLeft q c = s.releaseLock q p i := by
  unfold State.stepLeft State.dropLock
  rw [raiseBlind_confirmed confirmed, pair]
  exact if_pos taken

end

/-- R99: a restart changes nothing of what a queue awaits. -/
theorem queueHeard_awaits (s : State) (f : Frame) (st : QueueState) (p : Station) (i : InboxIx) :
    (s.queueHeard f st).awaits p i = (st.awaits p i).map (s.stepHeard f) := by
  cases st with
  | running c =>
    have lock : (s.stepHeard f c).lock = c.lock := by rw [stepHeard_only]
    change (if (s.stepHeard f c).lock = .awaited ∧ (s.stepHeard f c).pair = some (p, i) then _ else _) =
      (if c.lock = .awaited ∧ c.pair = some (p, i) then some c else none).map _
    rw [lock, stepHeard_pair]
    split <;> rfl
  | _ => rfl

/-! ### The step that a reply decides -/

/-- R86, R87, R90, R94: the context of a step that a reply has decided. -/
def Context.answered (c : Context) (late attempts : Nat) (seq : Option Seq) : Context :=
  { c with late := late, unconfirmed := false, stepAttempts := attempts, seqSent := seq }

/-- A state `x` in which a REPLY of station `p` was heard and its pair's record and hint are as it gives. -/
structure AnsweredFrom (s : State) (f : Frame) (p : Station) (i : InboxIx) (offer : Offer) (x : State) : Prop where
  settings : x.settings = s.settings
  straps : x.straps = s.straps
  store : x.store = s.store
  log : x.log = s.log
  queueIdle : x.attention.queueIdle = s.attention.queueIdle
  queue : ∀ r, x.queue r = s.queueHeard f (s.queue r)
  lock : ∀ r j, (x.sendPair r j).lock = (s.sendPair r j).lock
  hint : ∀ r j, x.hint r j = if (r, j) = (p, i) then some offer else s.hintHeard f r j
  awake : (x.peer p).state ≠ .silent
  other : ∀ r, r ≠ p → (x.peer r).state = (s.peer r).state

section
variable {s u : State} {f : Frame} {i : InboxIx} {offer : Offer}

theorem HeardAs.answeredFrom (heard : HeardAs s f u) {record : SendPair}
    (lock : record.lock = (u.sendPair f.src i).lock) :
    AnsweredFrom s f f.src i offer ((u.unwatched.setSendPair f.src i record).setHint f.src i (some offer)) := by
  have states (r : Station) :
      (((u.unwatched.setSendPair f.src i record).setHint f.src i (some offer)).peer r).state = (u.peer r).state :=
    ((setHint_keeps (u.unwatched.setSendPair f.src i record) f.src i (some offer)).peer r).1.trans
      ((setSendPair_keeps u.unwatched f.src i record).peer r).1
  refine ⟨heard.settings, heard.straps, heard.store, heard.log, heard.queueIdle, heard.queue, fun r j => ?_,
    fun r j => ?_, ?_, fun r hr => ?_⟩
  · have locks : (u.sendPair r j).lock = (s.sendPair r j).lock := by rw [heard.sendPair, pairHeard_lock]
    rw [setHint_sendPair, setSendPair_sendPair, ← locks]
    split
    · next same => rw [lock, same.1, same.2]
    · rfl
  · have hint : u.unwatched.hint r j = s.hintHeard f r j := heard.hint r j
    rw [setHint_hint, setSendPair_hint, hint]
    simp only [Prod.mk.injEq, eq_comm]
  · rw [states, heard.source.1]
    decide
  · rw [states, heard.other r hr]

/-- R85, R87, R90, R94: the replies that decide a DATA's step without a refusal for want of room. -/
theorem HeardAs.decides (heard : HeardAs s f u) {w : Watch} {c : Context} {code : Octet} {last : Seq} {fresh : Bool}
    {o : Outcome} (body : f.body = .reply code last fresh offer) (station : w.station = f.src) (dst : f.dst = some s.own)
    (watch : s.trunk.watch = some w) (frame : w.frame = .data) (running : s.queue w.queue = .running c)
    (pair : c.pair = some (f.src, i))
    (decided : ((code = 1 ∨ code = 2) ∧ o = .delivered) ∨ (code = 4 ∧ o = .tooLong) ∨ (code = 5 ∧ o = .closed))
    {late : Nat} (found : late = min 3 (c.late + if code.toNat ≤ 2 then (s.pairHeard f f.src i).blind
      else (s.pairHeard f f.src i).found last fresh)) :
    ∃ x n m, AnsweredFrom s f f.src i offer x ∧ u.closeWatch (w.answer s.own f) =
      x.endStep w.queue (c.answered late n m) false o := by
  have flight : (u.queue w.queue).inFlight = some (s.stepHeard f c, false) := by
    rw [heard.queue, running]
    rfl
  have taken {rc : ReplyCode} (named : code = rc.toOctet) (fits : rc.fits w.frame = true) :
      u.closeWatch (w.answer s.own f) = u.unwatched.replyTaken w.queue (s.stepHeard f c) false rc
        { last, fresh, offer } := by
    rw [answer_reply body station.symm dst named fits]
    exact closeWatch_reply (heard.exchanges.1.trans watch) flight
  have step := (stepHeard_pair s f c).trans pair
  have record : u.unwatched.sendPair f.src i = s.pairHeard f f.src i := heard.sendPair f.src i
  have delivers (early : code.toNat ≤ 2)
      (closes : u.closeWatch (w.answer s.own f) =
        u.unwatched.dataDelivered w.queue (s.stepHeard f c) false f.src i { last, fresh, offer }) :
      ∃ x n m, AnsweredFrom s f f.src i offer x ∧ u.closeWatch (w.answer s.own f) =
        x.endStep w.queue (c.answered late n m) false .delivered := by
    have context : { (s.stepHeard f c).addLate (u.unwatched.sendPair f.src i).blind with unconfirmed := false } =
        c.answered late (s.stepHeard f c).stepAttempts c.seqSent := by
      rw [found, if_pos early, record, stepHeard_only]
      rfl
    refine ⟨_, (s.stepHeard f c).stepAttempts, c.seqSent, heard.answeredFrom (record := { u.unwatched.sendPair f.src i with
      anchor := (s.stepHeard f c).seqSent.getD (u.unwatched.sendPair f.src i).anchor, blind := 0 }) rfl, closes.trans ?_⟩
    rw [← context]
    rfl
  have refuses (later : ¬ code.toNat ≤ 2)
      (closes : u.closeWatch (w.answer s.own f) = (((u.unwatched.anchored f.src i { last, fresh, offer }).setHint f.src i
        (some offer)).endStep w.queue ((s.stepHeard f c).reanchored (u.unwatched.sendPair f.src i)
          { last, fresh, offer }) false o)) :
      ∃ x n m, AnsweredFrom s f f.src i offer x ∧ u.closeWatch (w.answer s.own f) =
        x.endStep w.queue (c.answered late n m) false o := by
    have context : (s.stepHeard f c).reanchored (u.unwatched.sendPair f.src i) { last, fresh, offer } =
        c.answered late (s.stepHeard f c).stepAttempts none := by
      rw [found, if_neg later, record, stepHeard_only, Context.reanchored, discovered_eq]
      rfl
    refine ⟨_, (s.stepHeard f c).stepAttempts, none, heard.answeredFrom
      (record := (u.unwatched.sendPair f.src i).reanchored { last, fresh, offer }) rfl,
      closes.trans ?_⟩
    rw [← context]
    rfl
  have fits {rc : ReplyCode} (data : rc.fits .data = true) : rc.fits w.frame = true := by rw [frame]; exact data
  rcases decided with ⟨rfl | rfl, rfl⟩ | ⟨rfl, rfl⟩ | ⟨rfl, rfl⟩
  · refine delivers (by decide) ((taken (rc := .accepted) rfl (fits rfl)).trans ?_)
    simp only [State.replyTaken, step]
  · refine delivers (by decide) ((taken (rc := .duplicate) rfl (fits rfl)).trans ?_)
    simp only [State.replyTaken, step]
  · exact refuses (by decide) ((taken (rc := .tooLong) rfl (fits rfl)).trans (replyTaken_tooLong step false))
  · exact refuses (by decide) ((taken (rc := .closed) rfl (fits rfl)).trans (replyTaken_closed step false))

end

/-! ### The hand-back of a delivered message to one station -/

/-- The state `z` in which a delivered message to one station has been handed back and the queue reads its link. -/
structure HandedBack (s : State) (f : Frame) (q : QueueIx) (c : Context) (p : Station) (i : InboxIx) (offer : Offer)
    (late : Nat) (z : State) : Prop where
  settings : z.settings = s.settings
  straps : z.straps = s.straps
  store : z.store = (s.setDesc c.head ((s.desc c.head).handedBack c .delivered late)).store
  log : z.log = if c.copy.notify = true ∨ (s.queueSetting q).logAll = true ∨ 0 < late
    then s.log ++ [{ queue := q, descriptor := c.head, outcome := .delivered, attempts := c.attempts, late := late,
                     perDest := none }] else s.log
  queueIdle : z.attention.queueIdle = s.attention.queueIdle
  busy : (z.queue q).isWaiting = false
  released : ∃ x, AnsweredFrom s f p i offer x ∧ (z.sendPair p i).lock = (x.firstAwaiting q p i).map Prod.fst ∧
    z.queues = (x.releaseLock q p i).queues
  lock : ∀ r j, (z.sendPair r j).lock ≠ none ↔
    if (r, j) = (p, i) then ∃ n, n ≠ q ∧ (s.queue n).awaits p i ≠ none else (s.sendPair r j).lock ≠ none
  hint : ∀ r j, z.hint r j = if (r, j) = (p, i) then some offer else s.hintHeard f r j
  awake : (z.peer p).state ≠ .silent
  other : ∀ r, r ≠ p → (z.peer r).state = (s.peer r).state

theorem handBack_store (s : State) (q : QueueIx) (c : Context) : (s.handBack q c).store =
    (s.setDesc c.head { s.desc c.head with
      armed := false, holder := none, outcome := some c.settledOutcome, attempts := c.attempts, late := c.late,
      perDest := c.perDest }).store := by
  unfold State.handBack
  split <;> rfl

theorem handBack_attention (s : State) (q : QueueIx) (c : Context) : (s.handBack q c).attention = s.attention := by
  unfold State.handBack
  split <;> rfl

theorem setDesc_store_congr {s t : State} (store : t.store = s.store) (d : DescIx) (x : Descriptor) :
    (t.setDesc d x).store = (s.setDesc d x).store := by
  simp only [State.setDesc, store]
  rfl

section
variable {s x : State} {f : Frame} {q : QueueIx} {c : Context} {p : Station} {i : InboxIx} {offer : Offer}
  {late attempts : Nat} {seq : Option Seq}

/-- R145, R146: when the record of a delivered message is required. -/
theorem AnsweredFrom.required (b : AnsweredFrom s f p i offer x) (one : c.toOne p) :
    (x.stepLeft q (c.answered late attempts seq)).recordRequired q ((c.answered late attempts seq).ended .delivered) = true ↔
      (c.copy.notify = true ∨ (s.queueSetting q).logAll = true ∨ 0 < late) := by
  have outcome := (toOne_ended (c := c.answered late attempts seq) one .delivered).1
  have setting : (x.stepLeft q (c.answered late attempts seq)).queueSetting q = s.queueSetting q := by
    rw [stepLeft_only]
    simp only [State.queueSetting, b.settings]
  unfold State.recordRequired
  rw [outcome, setting]
  change (c.copy.notify || (s.queueSetting q).logAll || false || decide (0 < late)) = true ↔ _
  simp only [Bool.or_eq_true, Bool.or_false, decide_eq_true_eq, or_assoc]

theorem AnsweredFrom.unheld (b : AnsweredFrom s f p i offer x) (n : QueueIx) :
    (x.queue n).awaits p i = ((s.queue n).awaits p i).map (s.stepHeard f) := by
  rw [b.queue, queueHeard_awaits]

theorem AnsweredFrom.holdTicks (b : AnsweredFrom s f p i offer x) : x.holdTicks = s.holdTicks := by
  simp only [State.holdTicks, b.settings, b.straps]

/-- R71, R80, R87, R95. -/
theorem AnsweredFrom.handedBack (b : AnsweredFrom s f p i offer x) (one : c.toOne p) (pair : c.pair = some (p, i))
    (taken : c.lock = .taken) (running : s.queue q = .running c) :
    HandedBack s f q c p i offer late
      ((x.stepLeft q (c.answered late attempts seq)).handBack q ((c.answered late attempts seq).ended .delivered)) := by
  have passes : x.stepLeft q (c.answered late attempts seq) = x.releaseLock q p i := stepLeft_taken rfl pair taken
  obtain ⟨outcome, list⟩ := toOne_ended (c := c.answered late attempts seq) one .delivered
  have completes : ((c.answered late attempts seq).ended .delivered).completion q =
      { queue := q, descriptor := c.head, outcome := .delivered, attempts := c.attempts, late := late, perDest := none } :=
    completion_toOne (c := c.answered late attempts seq) one
  have kept := handBack_keeps (x.stepLeft q (c.answered late attempts seq)) q
    ((c.answered late attempts seq).ended .delivered)
  have peers := handBack_peers (x.stepLeft q (c.answered late attempts seq)) q
    ((c.answered late attempts seq).ended .delivered)
  have only := stepLeft_only x q (c.answered late attempts seq)
  have pairs (r : Station) (j : InboxIx) : (((x.stepLeft q (c.answered late attempts seq)).handBack q
      ((c.answered late attempts seq).ended .delivered)).sendPair r j) = (x.releaseLock q p i).sendPair r j := by
    rw [← passes]
    simp only [State.sendPair, State.peer, peers]
  refine ⟨?_, ?_, ?_, ?_, ?_, ?_, ⟨x, b, ?_, ?_⟩, fun r j => ?_, fun r j => ?_, ?_, fun r hr => ?_⟩
  · rw [kept.settings, only]
    exact b.settings
  · rw [kept.straps, only]
    exact b.straps
  · have written := handBack_store (x.stepLeft q (c.answered late attempts seq)) q
      ((c.answered late attempts seq).ended .delivered)
    have store : (x.stepLeft q (c.answered late attempts seq)).store = s.store := by rw [only]; exact b.store
    rw [setDesc_store_congr store, outcome, list, stepLeft_desc, State.desc, b.store] at written
    exact written
  · rw [handBack_log, completes, stepLeft_log, b.log]
    simp only [b.required one]
  · rw [handBack_attention, stepLeft_attention]
    exact b.queueIdle
  · rw [handBack_queue, passes, releaseLock_self, b.queue, running]
    rfl
  · rw [pairs, releaseLock_lock]
  · rw [← passes]
    unfold State.handBack
    split <;> rfl
  · rw [pairs]
    split
    · next same =>
      cases same
      rw [releaseLock_lock, ne_eq, Option.map_eq_none_iff, ← ne_eq, firstAwaiting_ne_none]
      simp only [b.unheld, ne_eq, Option.map_eq_none_iff]
    · next differs =>
      rw [← passes, stepLeft_other (c := c.answered late attempts seq) pair differs, b.lock]
  · have hint : ((x.stepLeft q (c.answered late attempts seq)).handBack q
        ((c.answered late attempts seq).ended .delivered)).hint r j =
          (x.stepLeft q (c.answered late attempts seq)).hint r j := by
      simp only [State.hint, State.peer, peers]
    rw [hint, stepLeft_hint, b.hint]
  · rw [(kept.peer p).1, stepLeft_state]
    exact b.awake
  · rw [(kept.peer r).1, stepLeft_state]
    exact b.other r hr

end

/-! ### What the queue goes on to -/

namespace HandedBack

section
variable {s z : State} {f : Frame} {q : QueueIx} {c : Context} {p : Station} {i : InboxIx} {offer : Offer} {late : Nat}
  (b : HandedBack s f q c p i offer late z) {d e : DescIx}
include b

theorem desc (d : DescIx) :
    z.desc d = if c.head = d then (s.desc c.head).handedBack c .delivered late else s.desc d := by
  have same : z.desc d = (s.setDesc c.head ((s.desc c.head).handedBack c .delivered late)).desc d := by
    simp only [State.desc, b.store]
  exact same.trans (setDesc_desc ..)

theorem desc_head : z.desc c.head = (s.desc c.head).handedBack c .delivered late := (b.desc _).trans (if_pos rfl)

theorem desc_other (other : d ≠ c.head) : z.desc d = s.desc d := (b.desc d).trans (if_neg (Ne.symm other))

theorem fanout (n : ListIx) : z.fanout n = s.fanout n := by
  simp only [State.fanout, b.store]
  rfl

theorem holdTicks : z.holdTicks = s.holdTicks := by simp only [State.holdTicks, b.settings, b.straps]

theorem malformed (h : HostFields) : z.malformed h = s.malformed h := by
  simp only [State.malformed, b.fanout, State.own, b.straps]

theorem available (other : d ≠ c.head) : z.isAvailable d = s.isAvailable d := by
  simp only [State.isAvailable, b.desc_other other]

theorem firstContext (other : d ≠ c.head) (k later : Nat) : z.firstContext d k later = s.firstContext d k later := by
  simp only [State.firstContext, b.desc_other other, b.fanout]

theorem awakeNow {r : Station} (awake : r = p ∨ (s.peer r).state ≠ .silent) : (z.peer r).state ≠ .silent := by
  by_cases hr : r = p
  · rw [hr]
    exact b.awake
  · rw [b.other r hr]
    exact awake.resolve_left hr

theorem hasMessage (other : d ≠ c.head) {r : Station} {skipped later : List Station}
    (message : s.hasMessage d r skipped later) (heard : p ∉ skipped) : z.hasMessage d r skipped later := by
  obtain ⟨kind, awake, dest⟩ := message
  unfold State.hasMessage
  rw [b.desc_other other]
  refine ⟨kind, b.awakeNow (.inr awake), dest.imp_right ?_⟩
  rintro ⟨n, list, stations, silent⟩
  refine ⟨n, list, (b.fanout n).trans stations, fun x hx => ?_⟩
  rw [b.other x fun same => heard (same ▸ hx)]
  exact silent x hx

/-- R62, R72: the link is END. -/
theorem waitsAfter (link : (s.desc c.head).host.link = none) :
    z.followLink q c.head = (z.setQueue q (.waitingAfter c.head)).latchQueueIdle q := by
  have unlinked : (z.desc c.head).host.link = none := by rw [b.desc_head]; exact link
  unfold State.followLink
  rw [unlinked]
  exact enterWaiting_begins b.busy

theorem follows (link : (s.desc c.head).host.link = some e) : z.followLink q c.head = z.arrive q e arrivalFuel := by
  have linked : (z.desc c.head).host.link = some e := by rw [b.desc_head]; exact link
  unfold State.followLink
  rw [linked]

/-- R62, R72: the link names an unavailable descriptor. -/
theorem waitsAt (link : (s.desc c.head).host.link = some e) (unavailable : e = c.head ∨ ¬ s.isAvailable e) :
    z.followLink q c.head = (z.setQueue q (.waitingAt e)).latchQueueIdle q := by
  rw [b.follows link, arrive_unavailable, enterWaiting_begins b.busy]
  by_cases head : e = c.head
  · rw [head, State.isAvailable, b.desc_head]
    exact fun available => Bool.false_ne_true available.1
  · rw [b.available head]
    exact unavailable.resolve_left head

/-- R63, R72: the link names an available one. -/
theorem takes {t : State} (link : (s.desc c.head).host.link = some e) (other : e ≠ c.head) (available : s.isAvailable e)
    (taken : z.takeDescriptor q e = .underWay t) : z.followLink q c.head = t := by
  rw [b.follows link]
  exact arrive_underWay (by rw [b.available other]; exact available) taken 128

/-- R63: the descriptors and the latches when a step toward its first station, or its only frame, has begun. -/
theorem taken_rest {t : State} (other : e ≠ c.head)
    (only : t = { z.taking q e with peers := t.peers, queues := t.queues }) :
    t.desc e = { s.desc e with holder := some q } ∧ t.desc c.head = (s.desc c.head).handedBack c .delivered late ∧
      (∀ d, d ≠ c.head → d ≠ e → t.desc d = s.desc d) ∧ t.attention.queueIdle = s.attention.queueIdle := by
  have descs (d : DescIx) : t.desc d = (z.taking q e).desc d := by rw [only]; rfl
  refine ⟨?_, ?_, fun d hd he => ?_, ?_⟩
  · rw [descs, taking_desc, if_pos rfl, b.desc_other other]
  · rw [descs, taking_desc, if_neg other, b.desc_head]
  · rw [descs, taking_desc, if_neg (Ne.symm he), b.desc_other hd]
  · rw [only]
    exact b.queueIdle

/-- R80: no queue awaits the pair's lock. -/
theorem free (unawaited : ∀ n, n ≠ q → (s.queue n).awaits p i = none) :
    (z.sendPair p i).lock = none ∧ ∀ n, z.queue n = s.queueHeard f (s.queue n) := by
  obtain ⟨x, a, lock, queues⟩ := b.released
  have none' : x.firstAwaiting q p i = none := firstAwaiting_none fun n hn => by rw [a.unheld, unawaited n hn]; rfl
  refine ⟨by rw [lock, none']; rfl, fun n => ?_⟩
  rw [← a.queue, State.queue, queues, releaseLock_free none']
  rfl

/-- R80, R81: the first queue after this one that awaits the lock takes it and reads the hint. -/
theorem passed {n : Nat} {c' : Context} (low : 1 ≤ n) (high : n ≤ 3)
    (awaits : (s.queue (q + Fin.ofNat 4 n)).awaits p i = some c')
    (before : ∀ m, 1 ≤ m → m < n → (s.queue (q + Fin.ofNat 4 m)).awaits p i = none) :
    (z.sendPair p i).lock = some (q + Fin.ofNat 4 n) ∧ z.queue (q + Fin.ofNat 4 n) = if offer = 0
      then .held { s.stepHeard f c' with lock := .taken, hold := some s.holdTicks }
      else .running { s.stepHeard f c' with lock := .taken } := by
  obtain ⟨x, a, lock, queues⟩ := b.released
  have first : x.firstAwaiting q p i = some (q + Fin.ofNat 4 n, s.stepHeard f c') :=
    firstAwaiting_first low high (by rw [a.unheld, awaits]; rfl) fun m h1 h2 => by rw [a.unheld, before m h1 h2]; rfl
  refine ⟨by rw [lock, first]; rfl, ?_⟩
  rw [State.queue, queues, releaseLock_passed first]
  refine ((setQueue_queue ..).trans (if_pos rfl)).trans ?_
  rw [a.hint, if_pos rfl, a.holdTicks]
  simp only [Option.some.injEq]

/-- R63, R66, R68, R79, R81: the message that the link names is taken and its first step begins. -/
theorem takes_message (link : (s.desc c.head).host.link = some e) (other : e ≠ c.head) (available : s.isAvailable e)
    (valid : ¬ s.malformed (s.desc e).host) {r : Station} {skipped later : List Station}
    (message : s.hasMessage e r skipped later) (heard : p ∉ skipped) :
    (z.followLink q c.head = { z.taking q e with
      peers := (z.followLink q c.head).peers, queues := (z.followLink q c.head).queues }) ∧
    (z.followLink q c.head).queue q =
      if (if (r, (s.desc e).host.inbox) = (p, i) then ∃ n, n ≠ q ∧ (s.queue n).awaits p i ≠ none
          else (s.sendPair r (s.desc e).host.inbox).lock ≠ none)
        then .running { s.firstContext e skipped.length later.length with lock := .awaited }
      else if (if (r, (s.desc e).host.inbox) = (p, i) then some offer else s.hintHeard f r (s.desc e).host.inbox) = some 0
        then .held { s.firstContext e skipped.length later.length with lock := .taken, hold := some s.holdTicks }
      else .running { s.firstContext e skipped.length later.length with lock := .taken } := by
  obtain ⟨taken, paired⟩ := takeDescriptor_message (q := q)
    (by rw [b.desc_other other, b.malformed]; exact valid) (b.hasMessage other message heard)
  rw [b.firstContext other] at taken paired
  rw [b.desc_other other] at paired
  have begins := beginStep_queue (s := z.taking q e) (q := q) paired
  rw [b.takes link other available taken]
  refine ⟨beginStep_only .., begins.trans ?_⟩
  have lock := b.lock r (s.desc e).host.inbox
  have hint := b.hint r (s.desc e).host.inbox
  refine if_congr lock rfl (if_congr ?_ ?_ rfl)
  · rw [← hint]
    rfl
  · rw [← b.holdTicks]
    rfl

/-- R63, R66, R79: the BROADCAST or NOTICE that the link names is taken. -/
theorem takes_lone (link : (s.desc c.head).host.link = some e) (other : e ≠ c.head) (available : s.isAvailable e)
    (valid : ¬ s.malformed (s.desc e).host)
    (lone : (s.desc e).host.kind = .broadcast ∨ ((s.desc e).host.kind = .notice ∧
      ∃ r, (s.desc e).host.destination = .station r ∧ (r = p ∨ (s.peer r).state ≠ .silent))) :
    z.followLink q c.head = (z.taking q e).setQueue q (.running (s.firstContext e 0 0)) := by
  have taken := takeDescriptor_lone (s := z) (q := q) (d := e) (by rw [b.desc_other other, b.malformed]; exact valid) (by
    rw [b.desc_other other]
    refine lone.imp_right fun ⟨notice, r, one, awake⟩ => ⟨notice, r, one, b.awakeNow awake⟩)
  rw [b.firstContext other] at taken
  exact b.takes link other available taken

end

end HandedBack

/-- R71, R72, R87, R95: a delivered message to one station with room in the log. -/
theorem AnsweredFrom.goesOn {s x : State} {f : Frame} {q : QueueIx} {c : Context} {p : Station} {i : InboxIx}
    {offer : Offer} {late attempts : Nat} {seq : Option Seq} (b : AnsweredFrom s f p i offer x) (one : c.toOne p)
    (room : s.log.length < 64) : x.endStep q (c.answered late attempts seq) false .delivered =
      ((x.stepLeft q (c.answered late attempts seq)).handBack q
        ((c.answered late attempts seq).ended .delivered)).followLink q c.head := by
  refine (endStep_settles (.inr (.inr (toOne_left (c := c.answered late attempts seq) one))) (by rw [b.log]; exact room)).trans
    (if_neg Bool.false_ne_true)

/-- R149: with no room for the record it requires. -/
theorem AnsweredFrom.waits {s x : State} {f : Frame} {q : QueueIx} {c : Context} {p : Station} {i : InboxIx}
    {offer : Offer} {late attempts : Nat} {seq : Option Seq} (b : AnsweredFrom s f p i offer x) (one : c.toOne p)
    (required : c.copy.notify = true ∨ (s.queueSetting q).logAll = true ∨ 0 < late) (full : 64 ≤ s.log.length) :
    x.endStep q (c.answered late attempts seq) false .delivered = (x.stepLeft q (c.answered late attempts seq)).setQueue q
      (.blockedLog ((c.answered late attempts seq).ended .delivered).settled) := by
  refine (endStep_last (.inr (.inr (toOne_left (c := c.answered late attempts seq) one)))).trans (if_pos ?_)
  unfold State.mustWait
  rw [(b.required one).mpr required, stepLeft_log, b.log]
  exact decide_eq_true full

/-- Settles O49. -/
theorem deliveredMessageIsHandedBack : Obligations.DeliveredMessageIsHandedBack := by
  unfold Obligations.DeliveredMessageIsHandedBack
  intro line f code last fresh offer q c p i s hj body src dst hsrc hend hs transmission leave watch running pair unsettled
    delivered late required
  subst src
  obtain ⟨u, heard, hexec⟩ := exec_validFrameEnd_reply hj body hsrc hend hs transmission leave watch
  have decides {o : Outcome}
      (decided : ((code = 1 ∨ code = 2) ∧ o = .delivered) ∨ (code = 4 ∧ o = .tooLong) ∨ (code = 5 ∧ o = .closed)) :=
    heard.decides body rfl dst watch rfl running pair decided (late := late) rfl
  have handed (deliv : delivered) (one : c.toOne f.src) (taken : c.lock = .taken) (room : s.log.length < 64) :
      ∃ z, HandedBack s f q c f.src i offer late z ∧
        u.closeWatch (Watch.answer { queue := q, frame := .data, station := f.src } s.own f) = z.followLink q c.head := by
    obtain ⟨x, n, m, b, closes⟩ := decides (.inl ⟨deliv, rfl⟩)
    exact ⟨_, b.handedBack one pair taken running, closes.trans (b.goesOn one room)⟩
  refine ⟨_, hexec, fun deliv one taken room link => ?_, fun deliv one needed full => ?_,
    fun e deliv one taken room link => ?_, fun l o list length decided => ?_⟩
  · obtain ⟨z, b, ends⟩ := handed deliv one taken room
    rw [ends, b.waitsAfter link]
    have queue (r : QueueIx) (hr : r ≠ q) :
        ((z.setQueue q (.waitingAfter c.head)).latchQueueIdle q).queue r = z.queue r :=
      (setQueue_queue ..).trans (if_neg (Ne.symm hr))
    refine ⟨b.desc_head, fun d hd => b.desc_other hd, fun needed => b.log.trans (if_pos needed),
      fun needless => b.log.trans (if_neg needless), (setQueue_queue ..).trans (if_pos rfl),
      (latchQueueIdle_get ..).trans (if_pos rfl), fun unawaited => ?_, fun n x low high awaits before => ?_⟩
    · obtain ⟨lock, queues⟩ := b.free unawaited
      exact ⟨lock, fun r hr => (queue r hr).trans (queues r)⟩
    · obtain ⟨lock, now⟩ := b.passed low high awaits before
      exact ⟨lock, (queue _ (following_ne q low high)).trans now⟩
  · obtain ⟨x, n, m, b, closes⟩ := decides (.inl ⟨deliv, rfl⟩)
    rw [closes, b.waits one needed full]
    refine ⟨(stepLeft_log ..).trans b.log, ?_, _, (setQueue_queue ..).trans (if_pos rfl), rfl, ?_, rfl, rfl, rfl⟩
    · change (x.stepLeft q (c.answered late n m)).store = s.store
      rw [stepLeft_only]
      exact b.store
    · exact congrArg some (toOne_ended (c := c.answered late n m) one .delivered).1
  · intro h
    obtain ⟨z, b, ends⟩ := handed deliv one taken room
    refine ⟨?_, fun unavailable => ?_, fun other available valid => ⟨fun r skipped later message missed => ?_,
      fun lone => ?_⟩⟩
    · obtain ⟨x, n, m, b, closes⟩ := decides (.inl ⟨deliv, rfl⟩)
      rw [closes]
      refine (endStep_toOne_desc (c := c.answered late n m) one (by rw [b.log]; exact room) false).trans ?_
      simp only [State.desc, b.store]
      rfl
    · rw [ends, b.waitsAt link unavailable]
      exact ⟨(setQueue_queue ..).trans (if_pos rfl), (latchQueueIdle_get ..).trans (if_pos rfl),
        fun d hd => b.desc_other hd⟩
    · obtain ⟨only, queue⟩ := b.takes_message link other available valid message missed
      obtain ⟨held, -, others, idle⟩ := b.taken_rest other only
      rw [ends]
      exact ⟨held, others, idle, queue⟩
    · have takes := b.takes_lone link other available valid lone
      obtain ⟨held, -, -, idle⟩ := b.taken_rest (t := (z.taking q e).setQueue q (.running (s.firstContext e 0 0))) other rfl
      rw [ends, takes]
      exact ⟨held, idle, (setQueue_queue ..).trans (if_pos rfl)⟩
  · intro outcomes
    obtain ⟨x, n, m, b, closes⟩ := decides decided
    have goes : o ≠ .stopped := by
      rcases decided with ⟨-, rfl⟩ | ⟨-, rfl⟩ | ⟨-, rfl⟩ <;> decide
    have message := (pair_eq_some.mp pair).1
    refine ⟨fun last room => ?_, fun r low next other awake => ?_⟩
    · rw [closes]
      refine (endStep_fanout (c := c.answered late n m) message list unsettled last (by rw [b.log]; exact room)
        false).trans ?_
      simp only [State.desc, b.store]
      rfl
    · obtain ⟨store, log, queue⟩ := endStep_next (s := x) (q := q) (c := c.answered late n m) pair list next other
        (by rw [b.other r other]; exact awake) goes
      have differs : (r, i) ≠ (f.src, i) := fun same => other (congrArg Prod.fst same)
      have hint : x.hint r i = s.hint r i := by
        rw [b.hint, if_neg differs]
        exact if_neg fun revealed => other revealed.2
      rw [b.lock, hint, b.holdTicks] at queue
      rw [closes]
      exact ⟨store.trans b.store, log.trans b.log, queue⟩

end Sys2Proof.Machine
end

section
/-!
PROOFS. The host port's transactions: no command looks at the port's octets, and what the octets held and those clocked
in spell is taken (R169 to R172).
-/

namespace Sys2Proof.Machine

/-! ### No command looks at the port -/

def Progress.withPort (x : HostPort) : Progress → Progress
  | .underWay s => .underWay (s.setPort x)
  | .decided c s => .decided c (s.setPort x)

def Answer.withPort (x : HostPort) (a : Answer) : Answer := { a with state := a.state.setPort x }

theorem Answer.withPort_ite (x : HostPort) (p : Prop) [Decidable p] (a b : Answer) :
    (if p then a else b).withPort x = if p then a.withPort x else b.withPort x := apply_ite ..

theorem setPort_ite (x : HostPort) (p : Prop) [Decidable p] (s t : State) :
    (if p then s else t).setPort x = if p then s.setPort x else t.setPort x := apply_ite (State.setPort · x) ..

section
variable (s : State) (x : HostPort) (q : QueueIx) (c : Context) (p : Station) (i : InboxIx)

theorem readHint_setPort : (s.setPort x).readHint q c p i = (s.readHint q c p i).setPort x := by
  unfold State.readHint
  rw [setPort_ite]
  rfl

theorem takeLock_setPort : (s.setPort x).takeLock q c p i = (s.takeLock q c p i).setPort x := by
  unfold State.takeLock
  rw [show (s.setPort x).sendPair p i = s.sendPair p i from rfl]
  cases (s.sendPair p i).lock with
  | none => exact readHint_setPort (s.setLock p i (some q)) x q { c with lock := .taken } p i
  | some _ => rfl

theorem beginStep_setPort : (s.setPort x).beginStep q c = (s.beginStep q c).setPort x := by
  unfold State.beginStep
  cases c.pair with
  | none => rfl
  | some pair => exact takeLock_setPort ..

theorem beginSteps_setPort (left : Nat) :
    (s.setPort x).beginSteps q c left = (s.beginSteps q c left).withPort x := by
  have silent (c : Context) : (s.setPort x).silentStep c = s.silentStep c := rfl
  induction left generalizing c with
  | zero =>
    rw [beginSteps_zero, beginSteps_zero, silent, beginStep_setPort]
    split <;> rfl
  | succ n ih =>
    rw [beginSteps_succ, beginSteps_succ, silent, beginStep_setPort, ih]
    split <;> rfl

theorem handBack_setPort : (s.setPort x).handBack q c = (s.handBack q c).setPort x := by
  unfold State.handBack
  rw [setPort_ite]
  rfl

theorem enterWaiting_setPort (st : QueueState) : (s.setPort x).enterWaiting q st = (s.enterWaiting q st).setPort x := by
  unfold State.enterWaiting
  rw [setPort_ite]
  rfl

theorem takeDescriptor_setPort (d : DescIx) :
    (s.setPort x).takeDescriptor q d = (s.takeDescriptor q d).withPort x := by
  have begins := beginSteps_setPort (s.taking q d) x q (s.newContext d) (s.newContext d).left
  by_cases valid : s.malformed (s.desc d).host
  · rw [takeDescriptor_malformed (s := s.setPort x) valid, takeDescriptor_malformed valid]
    rfl
  · rw [takeDescriptor_valid (s := s.setPort x) valid, takeDescriptor_valid valid, ← begins]
    rfl

theorem arrive_setPort (d : DescIx) (fuel : Nat) : (s.setPort x).arrive q d fuel = (s.arrive q d fuel).setPort x := by
  induction fuel generalizing s d with
  | zero => exact enterWaiting_setPort ..
  | succ n ih =>
    unfold State.arrive
    rw [setPort_ite, takeDescriptor_setPort, enterWaiting_setPort]
    refine if_congr Iff.rfl ?_ rfl
    cases s.takeDescriptor q d with
    | underWay t => rfl
    | decided c t =>
      dsimp only [Progress.withPort]
      rw [setPort_ite, handBack_setPort]
      refine if_congr Iff.rfl rfl ?_
      rw [show ((t.handBack q c).setPort x).desc d = (t.handBack q c).desc d from rfl]
      cases ((t.handBack q c).desc d).host.link with
      | none => exact enterWaiting_setPort ..
      | some e => exact ih ..

theorem followLink_setPort (d : DescIx) : (s.setPort x).followLink q d = (s.followLink q d).setPort x := by
  unfold State.followLink
  rw [show (s.setPort x).desc d = s.desc d from rfl]
  cases (s.desc d).host.link with
  | none => exact enterWaiting_setPort ..
  | some e => exact arrive_setPort ..

theorem settle_setPort (stopping : Bool) : (s.setPort x).settle q c stopping = (s.settle q c stopping).setPort x := by
  unfold State.settle
  dsimp only
  rw [setPort_ite, setPort_ite, handBack_setPort, followLink_setPort]
  rfl

theorem releaseLock_setPort : (s.setPort x).releaseLock q p i = (s.releaseLock q p i).setPort x := by
  unfold State.releaseLock
  rw [show (s.setPort x).firstAwaiting q p i = s.firstAwaiting q p i from rfl]
  cases s.firstAwaiting q p i with
  | none => rfl
  | some first => exact readHint_setPort (s.setLock p i (some first.1)) x first.1 { first.2 with lock := .taken } p i

theorem stepLeft_setPort : (s.setPort x).stepLeft q c = (s.stepLeft q c).setPort x := by
  have raised : (s.setPort x).raiseBlind c = (s.raiseBlind c).setPort x := by
    unfold State.raiseBlind
    cases c.pair with
    | none => rfl
    | some pair =>
      dsimp only
      rw [setPort_ite]
      rfl
  unfold State.stepLeft State.dropLock
  rw [raised]
  cases c.pair with
  | none => rfl
  | some pair =>
    dsimp only
    rw [setPort_ite, releaseLock_setPort]

theorem endStep_setPort (stopping : Bool) (o : Outcome) :
    (s.setPort x).endStep q c stopping o = (s.endStep q c stopping o).setPort x := by
  change (if (stopping || o == .stopped || (c.ended o).left == 0) = true
    then ((s.setPort x).stepLeft q c).settle q (c.ended o) stopping
    else match ((s.setPort x).stepLeft q c).beginSteps q { c.ended o with current := (c.ended o).current + 1 }
        ((c.ended o).left - 1) with
      | .underWay s => s
      | .decided c s => s.settle q c false) =
    (if (stopping || o == .stopped || (c.ended o).left == 0) = true
      then (s.stepLeft q c).settle q (c.ended o) stopping
      else match (s.stepLeft q c).beginSteps q { c.ended o with current := (c.ended o).current + 1 }
          ((c.ended o).left - 1) with
        | .underWay s => s
        | .decided c s => s.settle q c false).setPort x
  rw [setPort_ite, stepLeft_setPort, settle_setPort, beginSteps_setPort]
  refine if_congr Iff.rfl rfl ?_
  cases (s.stepLeft q c).beginSteps q { c.ended o with current := (c.ended o).current + 1 } ((c.ended o).left - 1) with
  | underWay t => rfl
  | decided c' t => exact settle_setPort ..

theorem stopQueue_setPort : (s.setPort x).stopQueue q = (s.stopQueue q).setPort x := by
  have step (c : Context) : (if (s.setPort x).frameOnTrunk q = true then (s.setPort x).setQueue q (.stopping c)
      else (s.setPort x).endStep q c true .stopped) =
        (if s.frameOnTrunk q = true then s.setQueue q (.stopping c) else s.endStep q c true .stopped).setPort x := by
    rw [setPort_ite, endStep_setPort]
    rfl
  unfold State.stopQueue
  rw [show (s.setPort x).queue q = s.queue q from rfl]
  cases s.queue q with
  | running c => exact step c
  | held c => exact step c
  | _ => rfl

theorem serveLog_setPort : (s.setPort x).serveLog = s.serveLog.setPort x := by
  unfold State.serveLog
  rw [show (s.setPort x).firstWaiting = s.firstWaiting from rfl]
  cases s.firstWaiting with
  | none => rfl
  | some q =>
    dsimp only [State.serveQueue]
    rw [show (s.setPort x).queue q = s.queue q from rfl]
    cases s.queue q with
    | blockedLog c => exact followLink_setPort ((s.writeBack c).appendRecord (c.completion q)) x q c.head
    | stopping c =>
      dsimp only
      rw [setPort_ite]
      rfl
    | _ => rfl

end

section
variable (s : State) (x : HostPort)

/-! R174: the answers, in the order of `State.perform`. -/

theorem configureAnswer_setPort (params : List Octet) :
    (s.setPort x).configureAnswer params = (s.configureAnswer params).withPort x := by
  unfold State.configureAnswer
  rw [Answer.withPort_ite, show (s.setPort x).own = s.own from rfl]
  cases settingsOf s.own params <;> rfl

theorem leaveAnswer_setPort : (s.setPort x).leaveAnswer = s.leaveAnswer.withPort x := by
  unfold State.leaveAnswer
  rw [Answer.withPort_ite]
  refine if_congr Iff.rfl ?_ rfl
  refine congrArg State.done (Eq.trans ?_ (setPort_ite x (s.trunk.line = .activeTx)
    (s.setClaim { s.claim with leaveDeferred := true }) s.enterOffline).symm)
  rfl

theorem joinAnswer_setPort : (s.setPort x).joinAnswer = s.joinAnswer.withPort x := by
  unfold State.joinAnswer
  rw [Answer.withPort_ite]
  rfl

theorem memWriteAnswer_setPort (address count : Half) (data : List Octet) :
    (s.setPort x).memWriteAnswer address count data = (s.memWriteAnswer address count data).withPort x := by
  unfold State.memWriteAnswer
  cases transferField address count <;> rfl

theorem memReadAnswer_setPort (address count : Half) :
    (s.setPort x).memReadAnswer address count = (s.memReadAnswer address count).withPort x := by
  unfold State.memReadAnswer
  cases transferField address count <;> rfl

theorem descWriteAnswer_setPort (index kindByte destByte channelByte : Octet) (address length : Half) (value : Value)
    (link : Octet) : (s.setPort x).descWriteAnswer index kindByte destByte channelByte address length value link =
      (s.descWriteAnswer index kindByte destByte channelByte address length value link).withPort x := by
  unfold State.descWriteAnswer
  cases indexField 128 index with
  | none => rfl
  | some d =>
    cases hostFieldsOf kindByte destByte channelByte address length value link with
    | none => rfl
    | some h =>
      dsimp only
      rw [Answer.withPort_ite]
      rfl

theorem descReadAnswer_setPort (index : Octet) :
    (s.setPort x).descReadAnswer index = (s.descReadAnswer index).withPort x := by
  unfold State.descReadAnswer
  cases indexField 128 index <;> rfl

theorem descDisarmAnswer_setPort (index : Octet) :
    (s.setPort x).descDisarmAnswer index = (s.descDisarmAnswer index).withPort x := by
  unfold State.descDisarmAnswer
  cases indexField 128 index with
  | none => rfl
  | some d =>
    dsimp only
    rw [Answer.withPort_ite, Answer.withPort_ite]
    rfl

theorem listWriteAnswer_setPort (list count : Octet) (stations : List Octet) :
    (s.setPort x).listWriteAnswer list count stations = (s.listWriteAnswer list count stations).withPort x := by
  unfold State.listWriteAnswer
  rw [show (s.setPort x).own = s.own from rfl]
  cases indexField 16 list with
  | none => rfl
  | some n => cases stationsField s.own count stations <;> rfl

theorem queueStartAnswer_setPort (queue index : Octet) :
    (s.setPort x).queueStartAnswer queue index = (s.queueStartAnswer queue index).withPort x := by
  unfold State.queueStartAnswer
  cases indexField 4 queue with
  | none => rfl
  | some q =>
    cases indexField 128 index with
    | none => rfl
    | some d =>
      dsimp only
      rw [Answer.withPort_ite, arrive_setPort]
      rfl

theorem queueResumeAnswer_setPort (queue : Octet) :
    (s.setPort x).queueResumeAnswer queue = (s.queueResumeAnswer queue).withPort x := by
  unfold State.queueResumeAnswer
  cases indexField 4 queue with
  | none => rfl
  | some q =>
    dsimp only
    rw [show (s.setPort x).queue q = s.queue q from rfl]
    cases s.queue q with
    | waitingAt d => exact congrArg State.done (arrive_setPort s x q d arrivalFuel)
    | waitingAfter d => exact congrArg State.done (followLink_setPort s x q d)
    | _ => rfl

theorem queueStopAnswer_setPort (queue : Octet) :
    (s.setPort x).queueStopAnswer queue = (s.queueStopAnswer queue).withPort x := by
  unfold State.queueStopAnswer
  cases indexField 4 queue with
  | none => rfl
  | some q => exact congrArg State.done (stopQueue_setPort s x q)

theorem queueReadAnswer_setPort (queue : Octet) :
    (s.setPort x).queueReadAnswer queue = (s.queueReadAnswer queue).withPort x := by
  unfold State.queueReadAnswer
  cases indexField 4 queue <;> rfl

theorem inboxPostAnswer_setPort (inbox : Octet) (address capacity : Half) :
    (s.setPort x).inboxPostAnswer inbox address capacity = (s.inboxPostAnswer inbox address capacity).withPort x := by
  unfold State.inboxPostAnswer
  cases indexField 8 inbox with
  | none => rfl
  | some i =>
    cases addressField address with
    | none => rfl
    | some a =>
      dsimp only
      rw [Answer.withPort_ite, Answer.withPort_ite, Answer.withPort_ite]
      rfl

theorem inboxTakeAnswer_setPort (inbox : Octet) :
    (s.setPort x).inboxTakeAnswer inbox = (s.inboxTakeAnswer inbox).withPort x := by
  unfold State.inboxTakeAnswer
  cases indexField 8 inbox with
  | none => rfl
  | some i =>
    dsimp only
    rw [show (s.setPort x).inbox i = s.inbox i from rfl]
    cases (s.inbox i).arrivals <;> rfl

theorem inboxReadAnswer_setPort (inbox : Octet) :
    (s.setPort x).inboxReadAnswer inbox = (s.inboxReadAnswer inbox).withPort x := by
  unfold State.inboxReadAnswer
  cases indexField 8 inbox <;> rfl

theorem noticeTakeAnswer_setPort (word : Octet) :
    (s.setPort x).noticeTakeAnswer word = (s.noticeTakeAnswer word).withPort x := by
  unfold State.noticeTakeAnswer
  cases indexField 4 word <;> rfl

theorem logTakeAnswer_setPort : (s.setPort x).logTakeAnswer = s.logTakeAnswer.withPort x := by
  unfold State.logTakeAnswer
  rw [show (s.setPort x).log = s.log from rfl]
  cases s.log with
  | nil => rfl
  | cons r rest =>
    exact congrArg (fun t => { state := t, status := .done, data := octet rest.length :: r.octets : Answer })
      (serveLog_setPort (s.setLog rest) x)

theorem peerReadAnswer_setPort (station : Octet) :
    (s.setPort x).peerReadAnswer station = (s.peerReadAnswer station).withPort x := by
  unfold State.peerReadAnswer
  cases indexField 32 station <;> rfl

/-- R174: what a command does, and is answered, does not hang on the port. -/
theorem perform_setPort (cmd : Instr) : (s.setPort x).perform cmd = (s.perform cmd).withPort x := by
  cases cmd with
  | configure params => exact configureAnswer_setPort ..
  | leave => exact leaveAnswer_setPort ..
  | join => exact joinAnswer_setPort ..
  | memWrite address count data => exact memWriteAnswer_setPort ..
  | memRead address count => exact memReadAnswer_setPort ..
  | descWrite => exact descWriteAnswer_setPort ..
  | descRead index => exact descReadAnswer_setPort ..
  | descDisarm index => exact descDisarmAnswer_setPort ..
  | listWrite list count stations => exact listWriteAnswer_setPort ..
  | queueStart queue index => exact queueStartAnswer_setPort ..
  | queueResume queue => exact queueResumeAnswer_setPort ..
  | queueStop queue => exact queueStopAnswer_setPort ..
  | queueRead queue => exact queueReadAnswer_setPort ..
  | inboxPost inbox address capacity => exact inboxPostAnswer_setPort ..
  | inboxTake inbox => exact inboxTakeAnswer_setPort ..
  | inboxRead inbox => exact inboxReadAnswer_setPort ..
  | noticeTake word => exact noticeTakeAnswer_setPort ..
  | logTake => exact logTakeAnswer_setPort ..
  | peerRead station => exact peerReadAnswer_setPort ..
  | _ => rfl

theorem answer_setPort (cmd : Instr) : State.answer cmd (s.setPort x) = (State.answer cmd s).withPort x := by
  unfold State.answer
  rw [Answer.withPort_ite, perform_setPort]
  rfl

/-- The port is as it was while a command is answered; the response is placed in it afterwards. -/
theorem answer_port (cmd : Instr) : (State.answer cmd s).state.port = s.port :=
  congrArg (fun a : Answer => a.state.port) (answer_setPort s s.port cmd)

theorem respond_withPort (a : Answer) (sel : x.sel = a.state.port.sel) : (a.withPort x).respond = a.respond := by
  unfold Answer.respond Answer.withPort
  dsimp only
  rw [setPort_port, sel]
  rfl

end

/-! ### The octets of a command (R170 to R172) -/

/-- What the octets complete is found wherever the run that is clocked in begins. -/
theorem splitCommand_held {held pre post : List Octet} (more : post ≠ [])
    (whole : splitCommand held (pre ++ post) = some (held ++ pre ++ post, [])) :
    splitCommand (held ++ pre) post = some (held ++ pre ++ post, []) := by
  induction pre generalizing held with
  | nil => simpa using whole
  | cons o pre ih =>
    have same : held ++ o :: pre = held ++ [o] ++ pre := (List.append_cons ..)
    have step : splitCommand (held ++ [o]) (pre ++ post) = some (held ++ [o] ++ pre ++ post, []) := by
      unfold splitCommand at whole
      rw [same] at whole
      dsimp only [List.cons_append] at whole
      split at whole
      · have ended : pre ++ post = [] := congrArg Prod.snd (Option.some.inj whole)
        exact absurd (List.append_eq_nil_iff.mp ended).2 more
      · exact whole
    rw [same]
    exact ih step

theorem splitCommand_extra {held l r : List Octet} (whole : splitCommand held l = some (r, [])) (extra : List Octet) :
    splitCommand held (l ++ extra) = some (r, extra) := by
  induction l generalizing held with
  | nil => cases whole
  | cons o l ih =>
    unfold splitCommand at whole ⊢
    dsimp only [List.cons_append] at whole ⊢
    split at whole
    · next done =>
      obtain ⟨rfl, rfl⟩ := Prod.mk.inj (Option.some.inj whole)
      exact if_pos done
    · next undone =>
      rw [if_neg undone]
      exact ih whole

theorem splitCommand_none {held l : List Octet}
    (incomplete : ∀ n, 1 ≤ n → n ≤ l.length → commandComplete (held ++ l.take n) = false) :
    splitCommand held l = none := by
  induction l generalizing held with
  | nil => rfl
  | cons o l ih =>
    have first : commandComplete (held ++ [o]) = false := incomplete 1 (by decide) (by simp)
    unfold splitCommand
    rw [first, if_neg Bool.false_ne_true]
    refine ih fun n low high => ?_
    have later := incomplete (n + 1) (by omega) (by simpa using high)
    rwa [List.take_succ_cons, List.append_cons] at later

theorem isHost_iff (c : Instr) : isHost c = true ↔ (commandCode c).isSome = true ∨ ∃ code, c = .unknownCommand code := by
  cases c <;> simp [isHost, commandCode]

theorem isHost_of_carried {c : Instr} (carries : carriedBy c ≠ []) : isHost c = true := by
  cases c <;> simp [isHost, commandCode, carriedBy, parameterOctets] at carries ⊢

/-- The octets of a well-formed command but RESTART spell it whatever the straps and the line. -/
theorem commandOf_carriedBy_any {c : Instr} (hc : isHost c = true) (hw : c.wellFormed = true)
    (other : ∀ a r l, c ≠ .restart a r l) (a : Station) (r : Fin 4) (l : LineLevel) :
    commandOf a r l (carriedBy c) = c := by
  obtain ⟨s, sampled⟩ : ∃ s : State, s.sampled c = ({ address := a, rate := r }, l) := by
    refine ⟨{ State.reset with
      straps := { address := a, rate := r },
      trunk := { State.reset.trunk with line := if l = .mark then .idle else .activeRx } }, ?_⟩
    cases c with
    | restart a r l => exact absurd rfl (other a r l)
    | _ => cases l <;> rfl
  have spelt := commandOf_carriedBy hc hw s
  rwa [sampled] at spelt

/-- R171: octets that spell a command together with those held. -/
theorem taken_of_spelt {s : State} {c x : Instr} {extra : List Octet} (command : s.port.state = .command)
    (whole : x.wellFormed = true) (other : ∀ a r l, x ≠ .restart a r l)
    (spells : s.port.held ++ carriedBy c = carriedBy x ++ extra) (within : s.port.held.length < (carriedBy x).length) :
    isHost x = true ∧ s.taken c = some (x, extra) := by
  have host : isHost x = true := isHost_of_carried fun empty => by simp [empty] at within
  obtain ⟨rest, carried, clocked⟩ : ∃ rest, carriedBy x = s.port.held ++ rest ∧ carriedBy c = rest ++ extra := by
    rcases List.append_eq_append_iff.mp spells with ⟨rest, h1, h2⟩ | ⟨rest, h1, h2⟩
    · exact ⟨rest, h1, h2⟩
    · rw [h1, List.length_append] at within
      omega
  have more : rest ≠ [] := by
    rintro rfl
    rw [carried, List.append_nil] at within
    exact Nat.lt_irrefl _ within
  have split := splitCommand_carriedBy host whole
  rw [carried] at split
  have held := splitCommand_extra (splitCommand_held (held := []) more split) extra
  refine ⟨host, ?_⟩
  unfold State.taken
  rw [command]
  dsimp only
  rw [clocked, show s.port.held = [] ++ s.port.held from rfl, held, List.nil_append, ← carried]
  exact congrArg (fun y => some (y, extra)) (commandOf_carriedBy_any host whole other ..)

/-- Settles O6. -/
theorem transactionsOpenEndAndTakeOctets : Obligations.TransactionsOpenEndAndTakeOctets := by
  unfold Obligations.TransactionsOpenEndAndTakeOctets
  refine ⟨fun s sel idle rst => ?_, fun s => rfl, fun c s host => ⟨fun idle => ?_, fun response => ?_,
    fun command incomplete => ?_, fun x extra command whole other spells within => ?_⟩, fun p n => ⟨fun sel => ?_,
      fun sel hn => ?_⟩, fun o => ?_⟩
  · simp only [exec, execSelFall, sel, idle, rst]
  · rw [exec_host ((isHost_iff c).mpr host), State.clockOctets, State.taken, idle]
  · rw [exec_host ((isHost_iff c).mpr host), State.clockOctets, State.taken, response]
    rfl
  · rw [exec_host ((isHost_iff c).mpr host), State.clockOctets, State.taken, command]
    dsimp only
    rw [splitCommand_none incomplete]
    rfl
  · obtain ⟨hx, taken⟩ := taken_of_spelt command whole other spells within
    have same : (State.answer x (s.setPort { s.port with held := [] })).respond = (State.answer x s).respond := by
      rw [answer_setPort]
      exact respond_withPort _ _ (congrArg HostPort.sel (answer_port s x)).symm
    refine ⟨(State.answer x s).respond, ?_, rfl, ?_⟩
    · rw [exec_of_listens (s := s.setPort { s.port with held := [] }) ⟨command, rfl⟩ hx whole, same]
    · rw [exec_host ((isHost_iff c).mpr host), State.clockOctets, taken]
      rfl
  · unfold HostPort.sdo
    rw [sel]
  · have shifted (o : Octet) : (shiftedBits o)[n]? = some (o.getLsbD (7 - n)) := by
      unfold shiftedBits
      interval_cases n <;> rfl
    have next : p.nextOctet = if p.state = .response then p.response.headD 0x00 else 0x00 := by
      unfold HostPort.nextOctet
      cases p.state <;> rfl
    unfold HostPort.sdo
    rw [sel, ← next]
    exact shifted _
  · revert o
    decide

end Sys2Proof.Machine
end
